-- ==== Sys2Proof/Word.lean ====
section
/-! DEFINITION. Bytes and byte strings (00_scope.md R9, R10). -/

namespace Sys2Proof

/-- A byte, unsigned, bit 0 the least significant (00_scope.md R9). -/
abbrev Byte := BitVec 8

/-- A byte string, index 0 first (00_scope.md R10). -/
abbrev Bytes := List Byte

end Sys2Proof
end

