-- ==== Sys2Proof/Config.lean ====
section
/-! DEFINITION. The constants the spec fixes (00_scope.md R6, 10_state.md R28), the five parameters
no source fixes (R7), and the environment's free choices (`draw`, R11), which are opaque: no proof
can see their values. -/

namespace Sys2Proof

/-- BLOCK_SIZE (R6). -/
def Config.blockSize : Nat := 16
/-- PAD_BYTE (R6). -/
def Config.padByte : Byte := 0xFF
/-- CRC_SEED (R6). -/
def Config.crcSeed : Byte := 0x00
/-- CRC_POLY, reflected form (R6). -/
def Config.crcPoly : Byte := 0x8C
/-- DATA_FRAME_LEN (R6). -/
def Config.dataFrameLen : Nat := 19

/-- Wire byte alphabet (R6): Probe. -/
def Config.probeByte : Byte := 0x01
/-- Wire byte alphabet (R6): Data-start. -/
def Config.dataStart : Byte := 0x02
/-- Wire byte alphabet (R6): Data-end. -/
def Config.dataEnd : Byte := 0x03
/-- Wire byte alphabet (R6): Terminate. -/
def Config.termByte : Byte := 0x04
/-- Wire byte alphabet (R6): Ack. -/
def Config.ackByte : Byte := 0x06
/-- Wire byte alphabet (R6): Nack. -/
def Config.nackByte : Byte := 0x15
/-- Wire byte alphabet (R6): Erase-part-A. -/
def Config.eraseA : Byte := 0x1A
/-- Wire byte alphabet (R6): Erase-part-B. -/
def Config.eraseB : Byte := 0x7F
/-- The response byte that stands for "no response" (30_encoding.md R84). -/
def Config.timeoutByte : Byte := 0x00

/-- T_HS in milliseconds, an upper bound; recorded, read by no step (R6, R131). -/
def Config.handshakeMillis : Nat := 1000

/-- PARITY (R6). -/
inductive Config.Parity where
  | none | odd | even
deriving DecidableEq, Repr

/-- The line settings (10_state.md R28): constants, recorded for the reader. -/
structure Config.LineSettings where
  baud : Nat
  dataBits : Nat
  parity : Config.Parity
  stopBits : Nat
  flowControl : Bool
  rawMode : Bool
  postProcessing : Bool
deriving DecidableEq, Repr

/-- 19200 baud, 8N1, no flow control, raw, no post-processing (R6, R28). -/
def Config.lineSettings : Config.LineSettings :=
  { baud := 19200, dataBits := 8, parity := .none, stopBits := 1
    flowControl := false, rawMode := true, postProcessing := false }

/-- ENDPOINTS, a set of naturals of any size (R7). -/
inductive Config.Endpoints where
  /-- The set of the machine as built: unknown, and finite or not. -/
  | asBuilt
  /-- Exactly these ids, as a claim or a test may take them. -/
  | listed (ids : List Nat)
deriving DecidableEq, Repr

/-- Membership in the set of the machine as built: unknown, so any set of naturals (log 4). -/
opaque Config.isEndpoint : Nat → Bool

/-- `e in ENDPOINTS`. -/
def Config.Endpoints.has : Config.Endpoints → Nat → Bool
  | .asBuilt, e => Config.isEndpoint e
  | .listed ids, e => ids.contains e

/-- The parameters of R7. A state carries them as data (log 4), so that a statement about every
state is a statement about every value of them. -/
structure Config.Params where
  /-- ARG_MAX, at least 19. -/
  argMax : Nat
  /-- RX_CAP, at least 1, or `none` for unbounded. -/
  rxCap : Option Nat
  /-- ENDPOINTS. -/
  endpoints : Config.Endpoints
  /-- DEV_ERRORS. -/
  devErrors : Bool
  /-- IO_ERRORS. -/
  ioErrors : Bool
deriving DecidableEq, Repr

/-- The bounds R7 puts on the parameters. -/
abbrev Config.Params.wf (p : Config.Params) : Prop := 19 ≤ p.argMax ∧ p.rxCap ≠ some 0

/-- How far ARG_MAX lies above its least value 19 in the machine as built: unknown. -/
opaque Config.argMaxAbove19 : Nat
/-- RX_CAP less its least value 1 in the machine as built, or unbounded: unknown. -/
opaque Config.rxCapAbove1 : Option Nat

/-- The parameters of the machine as built: unknown within R7's bounds; DEV_ERRORS and IO_ERRORS at
R7's default, true. -/
def Config.params : Config.Params :=
  { argMax := Config.argMaxAbove19 + 19
    rxCap := Config.rxCapAbove1.map (· + 1)
    endpoints := .asBuilt
    devErrors := true
    ioErrors := true }

/-- `draw fail` of OPEN, CFG, WRITE and READ (42_transport.md R122, R127, R128, R130); free (log 6). -/
opaque Config.drawFail : Nat → Bool
/-- `draw k` of a failed WRITE, before it is brought into 0..|ARG| (R128); free (log 6). -/
opaque Config.drawPrefix : Nat → Nat
/-- `draw drop` of a failed READ (R130); free (log 6). -/
opaque Config.drawDrop : Nat → Bool
/-- `draw v` of a byte that arrives while the line is not configured (R133, R136); free (log 6). -/
opaque Config.drawByte : Nat → Byte
/-- How many turns a Handshake READ armed at this draw holds before the timer fires (R130's
`draw timeout`, weakly fair by 60_exceptions.md R213); free (log 7). -/
opaque Config.timerWait : Nat → Nat

/-- Whose turn it is (60_exceptions.md R210). The timer acts inside the block's READ (R213). -/
inductive Machine.Turn where
  /-- The host and the block: the command at the port is tried, or the host goes on. -/
  | block
  /-- The device delivers one byte, ARRIVE(v) (42_transport.md R133). -/
  | device (v : Byte)
  /-- Reset from outside (70_reset_and_hazards.md R240). -/
  | reset
deriving DecidableEq, Repr

/-- The turns of each stretch of the schedule that is not given as data: any turns, any number of them,
since R210 lets the agents interleave in any order and R212 puts no law on the device; free (log 1). -/
opaque Config.turns : Nat → List Machine.Turn

end Sys2Proof
end

