-- ==== Sys2Proof/Syntax.lean ====
section
/-! DEFINITION. The command record (30_encoding.md R72) and the instructions: one constructor for each
row of spec/opcode_table.json, 13 commands (R75), 4 wire frames (R80 to R83) and 3 response bytes
(R84). -/

namespace Sys2Proof

/-- The operand fields of a command record (R72). Every command carries all three; a field the
operation does not use is ignored. -/
structure Operands where
  /-- The endpoint id OPEN names. -/
  ep : Nat
  /-- The byte string CRC8, WRITE, BUILD.DATA and PARSE take. -/
  arg : Bytes
  /-- The option byte CLASSIFY takes; `none` for a timeout. -/
  opt : Option Byte
deriving DecidableEq, Repr

/-- A command record: the one-byte command word and the operand fields (R71, R72). -/
structure Cmd where
  opc : Byte
  operands : Operands
deriving DecidableEq, Repr

/-- The rows of the opcode table. -/
inductive Instr where
  /-- `crc8`, OPC 0x10 (41_checksum.md R103). -/
  | crc8 (o : Operands)
  /-- `open`, OPC 0x20 (42_transport.md R122). -/
  | openConn (o : Operands)
  /-- `close`, OPC 0x21 (R125). -/
  | closeConn (o : Operands)
  /-- `cfg`, OPC 0x22 or 0x23; `m` is OPC[0], false Handshake, true Streaming (R127, R74). -/
  | cfg (m : Bool) (o : Operands)
  /-- `write`, OPC 0x24 (R128). -/
  | write (o : Operands)
  /-- `read`, OPC 0x25 (R130). -/
  | read (o : Operands)
  /-- `flush`, OPC 0x26 (R132). -/
  | flush (o : Operands)
  /-- `build.probe`, OPC 0x30 (43_framer.md R171). -/
  | buildProbe (o : Operands)
  /-- `build.erase`, OPC 0x31 (R172). -/
  | buildErase (o : Operands)
  /-- `build.data`, OPC 0x32 (R173). -/
  | buildData (o : Operands)
  /-- `build.term`, OPC 0x33 (R174). -/
  | buildTerm (o : Operands)
  /-- `parse`, OPC 0x34 (R175). -/
  | parse (o : Operands)
  /-- `classify`, OPC 0x35 (R176). -/
  | classify (o : Operands)
  /-- `frame.probe`, the wire frame [01] (30_encoding.md R80). -/
  | frameProbe
  /-- `frame.erase`, the wire frame [1A 7F] (R81). -/
  | frameErase
  /-- `frame.data`, the wire frame [02] ++ payload ++ [check] ++ [03] (R82); the check byte may be
  wrong, which PARSE then reports. -/
  | frameData (payload : Bytes) (check : Byte)
  /-- `frame.term`, the wire frame [04] (R83). -/
  | frameTerm
  /-- `resp.ack`, the response byte 0x06 (R84). -/
  | respAck
  /-- `resp.nack`, the response byte 0x15 (R84). -/
  | respNack
  /-- `resp.timeout`, the response byte 0x00 (R84). -/
  | respTimeout
deriving DecidableEq, Repr

end Sys2Proof
end

