-- ==== Sys2Proof/WellFormed.lean ====
section
/-! DEFINITION. Which instruction terms stand for an encoding. A command's fields are naturals and byte
strings of any length (an ARG over ARG_MAX is no ill-formed command: it faults, 30_encoding.md R72),
so the one check is the Data frame's payload length (R82). -/

namespace Sys2Proof

/-- A Data frame carries exactly 16 payload bytes (R82); every other term is well-formed. -/
def Instr.wellFormed : Instr → Bool
  | .frameData payload _ => decide (payload.length = Config.blockSize)
  | .crc8 _ => true
  | .openConn _ => true
  | .closeConn _ => true
  | .cfg _ _ => true
  | .write _ => true
  | .read _ => true
  | .flush _ => true
  | .buildProbe _ => true
  | .buildErase _ => true
  | .buildData _ => true
  | .buildTerm _ => true
  | .parse _ => true
  | .classify _ => true
  | .frameProbe => true
  | .frameErase => true
  | .frameTerm => true
  | .respAck => true
  | .respNack => true
  | .respTimeout => true

end Sys2Proof
end

