-- ==== Sys2Proof/Decode.lean ====
section
/-! DEFINITION. The three encodings of 30_encoding.md: the command word and record (R71 to R76), the wire
frames (R79 to R83) and the response bytes (R84); decoders that reject by name, and the encoder. -/

namespace Sys2Proof

/-- What an instruction is encoded as. -/
inductive Encoded where
  /-- A command record (R72). -/
  | command (c : Cmd)
  /-- The bytes of a wire frame, first byte on the wire first (R79). -/
  | frame (bytes : Bytes)
  /-- A response byte (R84). -/
  | response (v : Byte)
deriving DecidableEq, Repr

/-- Why an encoding is no row of the opcode table. -/
inductive Reject where
  /-- The OPC is one of the 242 illegal values (R76). -/
  | illegalOp (opc : Byte)
  /-- The byte string is no frame (R86). -/
  | notAFrame (bytes : Bytes)
  /-- The byte is not Ack, Nack or the no-response byte (R84, R86). -/
  | notAResponse (v : Byte)
deriving DecidableEq, Repr

/-- What a decoder answers. -/
inductive Decoded where
  | instr (i : Instr)
  | reject (r : Reject)
deriving DecidableEq, Repr

/-! ### Commands -/

/-- A row of the opcode map: it matches where `OPC & mask = pattern` (R75). -/
structure OpcodeRow where
  pattern : Byte
  mask : Byte
  build : Byte → Operands → Instr

/-- Whether a row matches a command word (R75). -/
def OpcodeRow.hits (r : OpcodeRow) (opc : Byte) : Bool := decide (opc &&& r.mask = r.pattern)

/-- The complete command opcode map (R75); CFG's mode bit is OPC[0] (R74). -/
def opcodeMap : List OpcodeRow :=
  [ ⟨0x10, 0xFF, fun _ o => .crc8 o⟩,
    ⟨0x20, 0xFF, fun _ o => .openConn o⟩,
    ⟨0x21, 0xFF, fun _ o => .closeConn o⟩,
    ⟨0x22, 0xFE, fun opc o => .cfg (opc.getLsbD 0) o⟩,
    ⟨0x24, 0xFF, fun _ o => .write o⟩,
    ⟨0x25, 0xFF, fun _ o => .read o⟩,
    ⟨0x26, 0xFF, fun _ o => .flush o⟩,
    ⟨0x30, 0xFF, fun _ o => .buildProbe o⟩,
    ⟨0x31, 0xFF, fun _ o => .buildErase o⟩,
    ⟨0x32, 0xFF, fun _ o => .buildData o⟩,
    ⟨0x33, 0xFF, fun _ o => .buildTerm o⟩,
    ⟨0x34, 0xFF, fun _ o => .parse o⟩,
    ⟨0x35, 0xFF, fun _ o => .classify o⟩ ]

/-- Decode a command record by its command word alone; no operand field changes decoding (R71). -/
def decodeCommand (c : Cmd) : Decoded :=
  match opcodeMap.find? (fun r => r.hits c.opc) with
  | some r => .instr (r.build c.opc c.operands)
  | none => .reject (.illegalOp c.opc)

/-! ### Wire frames -/

/-- `s[a:b]` (00_scope.md R10). -/
def slice (s : Bytes) (a b : Nat) : Bytes := (s.drop a).take (b - a)

/-- The bytes of a Data frame (R82). -/
def dataFrame (payload : Bytes) (check : Byte) : Bytes :=
  [Config.dataStart] ++ payload ++ [check] ++ [Config.dataEnd]

/-- Decode a byte string as exactly one frame (R80 to R83, R86). A Data frame's shape does not depend
on its checksum byte. -/
def decodeFrame (s : Bytes) : Decoded :=
  if s = [Config.probeByte] then .instr .frameProbe
  else if s = [Config.eraseA, Config.eraseB] then .instr .frameErase
  else if s = [Config.termByte] then .instr .frameTerm
  else if s.length = Config.dataFrameLen ∧ s.getD 0 0 = Config.dataStart
      ∧ s.getD 18 0 = Config.dataEnd then .instr (.frameData (slice s 1 17) (s.getD 17 0))
  else .reject (.notAFrame s)

/-- Frame length by first byte (R85); `none` where the byte begins no frame. -/
def frameLength (first : Byte) : Option Nat :=
  if first = Config.probeByte then some 1
  else if first = Config.eraseA then some 2
  else if first = Config.dataStart then some Config.dataFrameLen
  else if first = Config.termByte then some 1
  else none

/-- Cut the first frame off a stream of wire bytes by R85: the frame and what follows it. -/
def cutFrame (s : Bytes) : Option (Bytes × Bytes) :=
  match s with
  | [] => none
  | v :: _ => (frameLength v).bind fun n =>
      if n ≤ s.length then some (s.take n, s.drop n) else none

/-! ### Response bytes -/

/-- Decode a response byte (R84). -/
def decodeResponse (v : Byte) : Decoded :=
  if v = Config.ackByte then .instr .respAck
  else if v = Config.nackByte then .instr .respNack
  else if v = Config.timeoutByte then .instr .respTimeout
  else .reject (.notAResponse v)

/-! ### All three -/

/-- Decode any encoding. -/
def decode : Encoded → Decoded
  | .command c => decodeCommand c
  | .frame s => decodeFrame s
  | .response v => decodeResponse v

/-- The encoding of an instruction, from R75, R80 to R83 and R84. -/
def encode : Instr → Encoded
  | .crc8 o => .command ⟨0x10, o⟩
  | .openConn o => .command ⟨0x20, o⟩
  | .closeConn o => .command ⟨0x21, o⟩
  | .cfg m o => .command ⟨if m then 0x23 else 0x22, o⟩
  | .write o => .command ⟨0x24, o⟩
  | .read o => .command ⟨0x25, o⟩
  | .flush o => .command ⟨0x26, o⟩
  | .buildProbe o => .command ⟨0x30, o⟩
  | .buildErase o => .command ⟨0x31, o⟩
  | .buildData o => .command ⟨0x32, o⟩
  | .buildTerm o => .command ⟨0x33, o⟩
  | .parse o => .command ⟨0x34, o⟩
  | .classify o => .command ⟨0x35, o⟩
  | .frameProbe => .frame [Config.probeByte]
  | .frameErase => .frame [Config.eraseA, Config.eraseB]
  | .frameData p c => .frame (dataFrame p c)
  | .frameTerm => .frame [Config.termByte]
  | .respAck => .response Config.ackByte
  | .respNack => .response Config.nackByte
  | .respTimeout => .response Config.timeoutByte

/-! ### The opcode table's words -/

/-- The operand fields all zero: EP = 0, ARG = [], OPT = None. -/
def Operands.zero : Operands := { ep := 0, arg := [], opt := none }

/-- The `n` low bytes of `w`, most significant first: the order in which the table writes the bytes of
a wire row (log 14). -/
def beBytes : Nat → Nat → Bytes
  | 0, _ => []
  | n + 1, w => BitVec.ofNat 8 (w >>> (8 * n)) :: beBytes n w

/-- What a table word stands for: an 8-bit word is a command word if the map has it, else a frame or a
response byte; a longer one is a frame. -/
def encodedOfTableWord (nbits w : Nat) : Encoded :=
  let bytes := beBytes (nbits / 8) w
  if nbits = 8 then
    match decodeCommand ⟨BitVec.ofNat 8 w, Operands.zero⟩, decodeFrame bytes,
        decodeResponse (BitVec.ofNat 8 w) with
    | .reject _, .instr _, _ => .frame bytes
    | .reject _, _, .instr _ => .response (BitVec.ofNat 8 w)
    | _, _, _ => .command ⟨BitVec.ofNat 8 w, Operands.zero⟩
  else .frame bytes

/-- The instruction the decoder reads from a table word. -/
def decodeTableWord (nbits w : Nat) : Option Instr :=
  match decode (encodedOfTableWord nbits w) with
  | .instr i => some i
  | .reject _ => none

/-- The command that has the block decode an encoding: a command record is itself, a frame is decoded
by PARSE (43_framer.md R175), a response byte by CLASSIFY (R176). -/
def carrier : Encoded → Cmd
  | .command c => c
  | .frame s => ⟨0x34, { ep := 0, arg := s, opt := none }⟩
  | .response v => ⟨0x35, { ep := 0, arg := [], opt := some v }⟩

end Sys2Proof
end

