-- ==== Sys2Proof/Machine/State.lean ====
section
/-! DEFINITION. The state: what the spec gives the block (10_state.md R20), the records between block
and host (30_encoding.md R72, R73), the parameters (00_scope.md R7), and the agents outside the block
as plain data (60_exceptions.md R210 to R214). -/

namespace Sys2Proof.Machine

/-- CONN (10_state.md R24). -/
inductive Conn where
  | closed | opened
deriving DecidableEq, Repr

/-- MODE, the timeout mode (R26). -/
inductive Mode where
  | unconfigured | handshake | streaming
deriving DecidableEq, Repr

/-- STATUS of a response (60_exceptions.md R216). -/
inductive Status where
  | ok | deviceError | ioError | fault
deriving DecidableEq, Repr

/-- A response record (30_encoding.md R73). -/
structure Rsp where
  status : Status
  code : Byte
  data : Bytes
  opt : Option Byte
deriving DecidableEq, Repr

/-- A byte-string operand of a program line (30_encoding.md R87). -/
inductive ByteExpr where
  | lit (bytes : Bytes)
  | rep (n : Nat) (v : Byte)
  | cat (a b : ByteExpr)
  /-- `$d`, the DATA of the preceding command's response. -/
  | prevData
deriving DecidableEq, Repr

/-- An option operand of a program line (R87). -/
inductive OptExpr where
  | absent
  | byte (v : Byte)
  /-- `$o`, the OPT of the preceding command's response. -/
  | prevOpt
deriving DecidableEq, Repr

/-- What the host does next: one command (R87) or one host statement (R89). Labels, counters and
outcomes are numbered (log 16). -/
inductive HostOp where
  | command (opc : Byte) (ep : Nat) (arg : ByteExpr) (opt : OptExpr)
  | label (l : Nat)
  | ifCode (code : Byte) (target : Nat)
  | ifStatus (status : Status) (target : Nat)
  | jump (target : Nat)
  | count (k n : Nat)
  | dec (k target : Nat)
  | delay
  | stop (name : Nat)
deriving DecidableEq, Repr

/-- The host agent: its program, what is left to do, its counters, and how it ended (R89). -/
structure HostState where
  prog : List HostOp
  rest : List HostOp
  counters : List (Nat × Nat)
  outcome : Option Nat
deriving DecidableEq, Repr

/-- A host with no program. -/
def HostState.empty : HostState := { prog := [], rest := [], counters := [], outcome := none }

/-- How a READ holds (00_scope.md R11): what re-enables it (42_transport.md R130). -/
inductive Hold where
  /-- Only an arrival: Streaming mode. -/
  | untilByte
  /-- An arrival, or the timer, which fires when the turns left are used up: Handshake mode (log 7). -/
  | untilByteOrTimer (left : Nat)
deriving DecidableEq, Repr

/-- The machine. -/
@[ext]
structure State where
  /-- CONN (10_state.md R24). -/
  conn : Conn
  /-- EP, no value while closed (R25). -/
  ep : Option Nat
  /-- MODE (R26). -/
  mode : Mode
  /-- RXQ, oldest byte first (R30). -/
  rxq : Bytes
  /-- FAULT (R32). -/
  fault : Byte
  /-- TXLOG (R31). -/
  txlog : Bytes
  /-- The command the host has issued and has no response to (60_exceptions.md R214). -/
  port : Option Cmd
  /-- Whether a reset abandoned the host's pending command, whose response the host then never gets
  (70_reset_and_hazards.md R240, log 12). -/
  abandoned : Bool
  /-- The last response handed to the host (10_state.md R33). -/
  rsp : Option Rsp
  /-- The parameters (00_scope.md R7). -/
  par : Config.Params
  /-- The model's own: the next turns to come; with none left the environment draws more (log 1). -/
  sched : List Turn
  /-- The model's own: counts the stretches of turns drawn (log 1). -/
  stretches : Nat
  /-- The host agent. -/
  host : HostState
  /-- The model's own: counts the steps that consulted a free value (log 6). -/
  draws : Nat
  /-- The model's own: how the READ at the port holds, `none` when no READ is held; with it the timer's
  arming (60_exceptions.md R226, log 7, log 19). -/
  hold : Option Hold
deriving DecidableEq, Repr

/-- No fault of the block ends the machine: raising one is a next state with FAULT set
(60_exceptions.md R218), and a halted block waits for reset (R219). So there is no constructor. -/
inductive Fault where
deriving DecidableEq, Repr

/-- Why an instruction has no meaning. -/
inductive Refusal where
  /-- Raised by a refused arm of `exec`: an instruction not modelled yet. Safe: nothing is claimed. -/
  | notModelled (mnemonic : String)
  /-- Raised by every command and every arrival when FAULT holds a reserved code 0x08..0xFF, which is
  never raised (93_implementation_defined.md I13: "a model that finds one in FAULT has a bug:
  refuse"). Safe: no state the machine reaches from reset holds one. -/
  | reservedFaultCode
deriving DecidableEq, Repr

/-- The machine after reset (10_state.md R39), with no command, no response and nothing scheduled. -/
def State.reset : State :=
  { conn := .closed, ep := none, mode := .unconfigured, rxq := [], fault := 0x00, txlog := []
    port := none, abandoned := false, rsp := none, par := Config.params, sched := [], stretches := 0
    host := HostState.empty, draws := 0, hold := none }

end Sys2Proof.Machine
end

