-- ==== Sys2Proof/Machine/Flags.lean ====
section
/-! DEFINITION. The block has no condition codes or flags (10_state.md R33): an operation's outcome is
carried only by its response. This file holds the codes of outcomes and the forms of a response. -/

namespace Sys2Proof.Machine

/-- The codes of CONN (10_state.md R24). -/
def Conn.code : Conn → Byte
  | .closed => 0
  | .opened => 1

/-- The codes of MODE (R26). -/
def Mode.code : Mode → Byte
  | .unconfigured => 0
  | .handshake => 1
  | .streaming => 2

/-- The codes of STATUS (60_exceptions.md R216). -/
def Status.code : Status → Byte
  | .ok => 0
  | .deviceError => 1
  | .ioError => 2
  | .fault => 3

/-- The faults the block raises (10_state.md R32, 60_exceptions.md R217). -/
inductive FaultCode where
  | illegalOp | argTooLong | notOpen | alreadyOpen | unconfigured | badLength | rxOverflow
deriving DecidableEq, Repr

/-- The code FAULT holds after each (R32). -/
def FaultCode.code : FaultCode → Byte
  | .illegalOp => 0x01
  | .argTooLong => 0x02
  | .notOpen => 0x03
  | .alreadyOpen => 0x04
  | .unconfigured => 0x05
  | .badLength => 0x06
  | .rxOverflow => 0x07

/-- CLASSIFY's class codes (30_encoding.md R77). -/
def classAck : Byte := 0x00
def classNack : Byte := 0x01
def classSpurious : Byte := 0x02
def classTimeout : Byte := 0x03

/-- PARSE's shape codes (R78). -/
def shapeProbe : Byte := 0x00
def shapeErase : Byte := 0x01
def shapeData : Byte := 0x02
def shapeTerminate : Byte := 0x03
def shapeBadChecksum : Byte := 0x04
def shapeMalformed : Byte := 0x05

/-- An OK response; a field not named has its default 0x00, [] or None (R73). -/
def okRsp (code : Byte := 0x00) (data : Bytes := []) (opt : Option Byte := none) : Rsp :=
  { status := .ok, code := code, data := data, opt := opt }

/-- The DEVICE_ERROR response (60_exceptions.md R216). -/
def deviceErrorRsp : Rsp := { status := .deviceError, code := 0x00, data := [], opt := none }

/-- The IO_ERROR response (R216). -/
def ioErrorRsp : Rsp := { status := .ioError, code := 0x00, data := [], opt := none }

/-- The response of a command that raises a fault (R218). -/
def faultRsp (f : FaultCode) : Rsp := { status := .fault, code := f.code, data := [], opt := none }

end Sys2Proof.Machine
end

