-- ==== Sys2Proof/Machine/Operands.lean ====
section
/-! DEFINITION. The operand forms: the fields of the command record (30_encoding.md R72) tested against
the parameters (00_scope.md R7), and the values the environment draws (R11) brought into their sets. -/

namespace Sys2Proof.Machine

/-- `|cmd.ARG| > ARG_MAX` (30_encoding.md R72). -/
def argTooLong (s : State) (arg : Bytes) : Bool := decide (s.par.argMax < arg.length)

/-- `cmd.EP in ENDPOINTS` (42_transport.md R122). -/
def knownEndpoint (s : State) (ep : Nat) : Bool := s.par.endpoints.has ep

/-- The mode CFG's mode bit selects (30_encoding.md R74). -/
def selectedMode (m : Bool) : Mode := if m then .streaming else .handshake

/-- `|RXQ| = RX_CAP`; also where the queue is longer, since R30 says "an arrival that would exceed it
faults" (log 10). -/
def rxFull (s : State) : Bool :=
  match s.par.rxCap with
  | none => false
  | some cap => decide (cap ≤ s.rxq.length)

/-- Whether the environment fails this OPEN or CFG (R122, R127). -/
def deviceFails (s : State) : Bool := s.par.devErrors && Config.drawFail s.draws

/-- Whether the environment fails this WRITE or READ (R128, R130). -/
def transferFails (s : State) : Bool := s.par.ioErrors && Config.drawFail s.draws

/-- The part of ARG a failed WRITE sent: `cmd.ARG[0:k]` for a drawn `k` in 0..|ARG| (R128). -/
def sentPrefix (s : State) (arg : Bytes) : Bytes :=
  arg.take (Config.drawPrefix s.draws % (arg.length + 1))

/-- Whether a failed READ drops the head of RXQ (R130). -/
def readDrops (s : State) : Bool := Config.drawDrop s.draws

/-- How long a Handshake READ whose step finds RXQ empty still holds (R130, log 7). -/
def timerLeft (s : State) : Nat :=
  match s.hold with
  | some (.untilByteOrTimer k) => k
  | _ => Config.timerWait s.draws

end Sys2Proof.Machine
end

