-- ==== Sys2Proof/Machine/Ops.lean ====
section
/-! DEFINITION. The named operations over the state: the response, raising a fault (60_exceptions.md
R218), the halt and check order (R219, R220), RxPop and TxAppend (20_memory.md R53, R54), the device's
arrival (42_transport.md R133) and reset (70_reset_and_hazards.md R240). -/

namespace Sys2Proof.Machine

/-- The command ends with response `r`: it leaves the port, and nothing is held (log 2, log 7). -/
def State.respond (s : State) (r : Rsp) : State :=
  { s with rsp := some r, port := none, hold := none }

/-- `raise Fault(code)` in a command: FAULT is written, the fault response is the whole report, and
no other element changes (60_exceptions.md R218, R221). -/
def State.raise (s : State) (f : FaultCode) : State :=
  State.respond { s with fault := f.code } (faultRsp f)

/-- `raise Fault(code)` in an ARRIVE step: FAULT is written, the byte is not enqueued, no response is
handed over (R218). -/
def State.raiseInArrival (s : State) (f : FaultCode) : State := { s with fault := f.code }

/-- The environment was consulted (00_scope.md R11, log 6). -/
def State.drawn (s : State) : State := { s with draws := s.draws + 1 }

/-- Opening a connection to endpoint `e` (42_transport.md R122). -/
def State.openTo (s : State) (e : Nat) : State :=
  { s with conn := .opened, ep := some e, mode := .unconfigured, rxq := [] }

/-- Releasing the connection (R125). -/
def State.release (s : State) : State :=
  { s with conn := .closed, ep := none, mode := .unconfigured, rxq := [] }

/-- Writing MODE (R127). -/
def State.setMode (s : State) (m : Mode) : State := { s with mode := m }

/-- Discarding RXQ (R132). -/
def State.flushRx (s : State) : State := { s with rxq := [] }

/-- The state change of `RxPop()` (20_memory.md R53); an empty queue stays empty. -/
def State.rxPop (s : State) : State := { s with rxq := s.rxq.drop 1 }

/-- `TxAppend(b)` (R54). -/
def State.txAppend (s : State) (b : Bytes) : State := { s with txlog := s.txlog ++ b }

/-- A byte enters RXQ at its end (42_transport.md R133). -/
def State.enqueue (s : State) (v : Byte) : State := { s with rxq := s.rxq ++ [v] }

/-- The READ at the port holds as `h` says (00_scope.md R11). -/
def State.holdOn (s : State) (h : Hold) : State := { s with hold := some h }

/-- A reserved code in FAULT (10_state.md R32). -/
def State.reservedFault (s : State) : Bool := decide (7 < s.fault.toNat)

/-- A halted block (60_exceptions.md R219). -/
def State.halted (s : State) : Bool := decide (s.fault ≠ 0x00)

/-- The halt check that stands before every command and every arrival (R219, R220 item 1): a halted
block takes no step, so nothing changes and the host waits; otherwise the step leads to `t`. A
reserved code in FAULT is refused (93_implementation_defined.md I13). -/
def whenRunning (s t : State) : Host.Outcome State Fault Refusal :=
  if s.reservedFault then .refused .reservedFaultCode
  else if s.halted then .next s
  else .next t

/-- The common checks of a command whose OPC is legal, and then its own rule's state `t`
(R220 items 1 to 3). -/
def command (s : State) (arg : Bytes) (t : State) : Host.Outcome State Fault Refusal :=
  whenRunning s (if argTooLong s arg then s.raise .argTooLong else t)

/-- A command whose OPC is illegal (30_encoding.md R76): ILLEGAL_OP comes before the length check
(60_exceptions.md R220). -/
def illegalCommand (s : State) : Host.Outcome State Fault Refusal :=
  whenRunning s (s.raise .illegalOp)

/-- What an arriving byte does to an open connection that is known to receive `v` (42_transport.md
R133, R134). -/
def State.receive (s : State) (v : Byte) : State :=
  if rxFull s then s.raiseInArrival .rxOverflow else s.enqueue v

/-- ARRIVE(v) in a running block: discarded while closed (R135), an arbitrary value while not
configured (R136), as sent otherwise (R133). -/
def State.arrival (s : State) (v : Byte) : State :=
  match s.conn, s.mode with
  | .closed, _ => s
  | .opened, .unconfigured => s.drawn.receive (Config.drawByte s.draws)
  | .opened, _ => s.receive v

/-- The device's step (60_exceptions.md R212): enabled only while FAULT = 0x00. -/
def arrive (s : State) (v : Byte) : Host.Outcome State Fault Refusal :=
  whenRunning s (s.arrival v)

/-- Reset: every element of the block at its reset value, a fresh TXLOG, a held command abandoned
without a response, for which the host goes on waiting (70_reset_and_hazards.md R240, log 12). What
else is not the block's stays. -/
def State.resetBlock (s : State) : State :=
  { s with conn := .closed, ep := none, mode := .unconfigured, rxq := [], fault := 0x00
           txlog := [], port := none, hold := none
           abandoned := s.abandoned || s.port.isSome }

end Sys2Proof.Machine
end

