-- ==== Sys2Proof/Machine/FrameCodec.lean ====
section
/-! DEFINITION. The frame codec (43_framer.md): the encoder BUILD.*, the decoder PARSE, the classifier
CLASSIFY, and the wire rows of the opcode table, which PARSE and CLASSIFY decode. Every operation is a
pure function of its operands (R170). -/

namespace Sys2Proof.Machine

/-! ### Encoder -/

/-- The Data frame of a block (30_encoding.md R82): the checksum covers the payload only. -/
def builtDataFrame (block : Bytes) : Bytes := dataFrame block (crc8 block)

/-- BUILD.PROBE (R171). -/
def execBuildProbe (o : Operands) (s : State) : Host.Outcome State Fault Refusal :=
  command s o.arg (s.respond (okRsp (data := [Config.probeByte])))

/-- BUILD.ERASE (R172). -/
def execBuildErase (o : Operands) (s : State) : Host.Outcome State Fault Refusal :=
  command s o.arg (s.respond (okRsp (data := [Config.eraseA, Config.eraseB])))

/-- BUILD.DATA's own rule (R173). -/
def buildDataRule (s : State) (block : Bytes) : State :=
  if block.length ≠ Config.blockSize then s.raise .badLength
  else s.respond (okRsp (data := builtDataFrame block))

/-- BUILD.DATA (R173). -/
def execBuildData (o : Operands) (s : State) : Host.Outcome State Fault Refusal :=
  command s o.arg (buildDataRule s o.arg)

/-- BUILD.TERM (R174). -/
def execBuildTerm (o : Operands) (s : State) : Host.Outcome State Fault Refusal :=
  command s o.arg (s.respond (okRsp (data := [Config.termByte])))

/-! ### Decoder -/

/-- PARSE's answer for a byte string (R175). -/
def parseRsp (s : Bytes) : Rsp :=
  if s = [Config.probeByte] then okRsp shapeProbe
  else if s = [Config.eraseA, Config.eraseB] then okRsp shapeErase
  else if s = [Config.termByte] then okRsp shapeTerminate
  else if s.length = Config.dataFrameLen ∧ s.getD 0 0 = Config.dataStart
      ∧ s.getD 18 0 = Config.dataEnd then
    if s.getD 17 0 = crc8 (slice s 1 17) then okRsp shapeData (slice s 1 17)
    else okRsp shapeBadChecksum (slice s 1 17) (some (s.getD 17 0))
  else okRsp shapeMalformed

/-- PARSE (R175). -/
def execParse (o : Operands) (s : State) : Host.Outcome State Fault Refusal :=
  command s o.arg (s.respond (parseRsp o.arg))

/-! ### Response classifier -/

/-- CLASSIFY's answer for an option byte (R176). -/
def classifyRsp : Option Byte → Rsp
  | none => okRsp classTimeout
  | some v =>
    if v = Config.timeoutByte then okRsp classTimeout
    else if v = Config.ackByte then okRsp classAck
    else if v = Config.nackByte then okRsp classNack
    else okRsp classSpurious [v]

/-- CLASSIFY (R176). -/
def execClassify (o : Operands) (s : State) : Host.Outcome State Fault Refusal :=
  command s o.arg (s.respond (classifyRsp o.opt))

/-! ### The wire rows -/

/-- A wire frame as the block takes it: PARSE of its bytes (R175, log 13). -/
def takeFrame (s : State) (bytes : Bytes) : Host.Outcome State Fault Refusal :=
  command s bytes (s.respond (parseRsp bytes))

/-- A response byte as the block takes it: CLASSIFY of it (R176, log 13). -/
def takeResponse (s : State) (v : Byte) : Host.Outcome State Fault Refusal :=
  command s [] (s.respond (classifyRsp (some v)))

/-- The Probe frame (30_encoding.md R80). -/
def execFrameProbe (s : State) : Host.Outcome State Fault Refusal :=
  takeFrame s [Config.probeByte]

/-- The Erase frame (R81). -/
def execFrameErase (s : State) : Host.Outcome State Fault Refusal :=
  takeFrame s [Config.eraseA, Config.eraseB]

/-- A Data frame (R82). -/
def execFrameData (payload : Bytes) (check : Byte) (s : State) : Host.Outcome State Fault Refusal :=
  takeFrame s (dataFrame payload check)

/-- The Terminate frame (R83). -/
def execFrameTerm (s : State) : Host.Outcome State Fault Refusal :=
  takeFrame s [Config.termByte]

/-- The Ack byte (R84). -/
def execRespAck (s : State) : Host.Outcome State Fault Refusal :=
  takeResponse s Config.ackByte

/-- The Nack byte (R84). -/
def execRespNack (s : State) : Host.Outcome State Fault Refusal :=
  takeResponse s Config.nackByte

/-- The no-response byte (R84, 90_conflicts.md C2). -/
def execRespTimeout (s : State) : Host.Outcome State Fault Refusal :=
  takeResponse s Config.timeoutByte

end Sys2Proof.Machine
end

