-- ==== Sys2Proof/Machine/SerialMux.lean ====
section
/-! DEFINITION. The serial mux (42_transport.md): OPEN, CLOSE, CFG, WRITE, READ, FLUSH. Each passes the
common checks, then its own in its rule's order, then the environment's draws (R121). -/

namespace Sys2Proof.Machine

/-- The line settings in force: exactly while open and configured (10_state.md R28). -/
def State.lineApplied (s : State) : Option Config.LineSettings :=
  if s.conn = .opened ∧ s.mode ≠ .unconfigured then some Config.lineSettings else none

/-- The least number of bytes a read returns (R29); not defined while unconfigured. -/
def Mode.minBytes : Mode → Option Nat
  | .unconfigured => none
  | .handshake => some 0
  | .streaming => some 1

/-- The bound on a read's wait in milliseconds, where there is one (R29); no step reads it. -/
def Mode.readBoundMillis : Mode → Option Nat
  | .unconfigured => none
  | .handshake => some Config.handshakeMillis
  | .streaming => none

/-- OPEN's own rule (R122). -/
def openRule (s : State) (ep : Nat) : State :=
  if s.conn = .opened then s.raise .alreadyOpen
  else if knownEndpoint s ep = false then s.respond deviceErrorRsp
  else if deviceFails s then s.drawn.respond deviceErrorRsp
  else (s.drawn.openTo ep).respond (okRsp)

/-- OPEN (R122). -/
def execOpen (o : Operands) (s : State) : Host.Outcome State Fault Refusal :=
  command s o.arg (openRule s o.ep)

/-- CLOSE (R125): allowed on a closed connection, which it leaves closed. -/
def execClose (o : Operands) (s : State) : Host.Outcome State Fault Refusal :=
  command s o.arg (s.release.respond (okRsp))

/-- CFG's own rule (R127). -/
def cfgRule (s : State) (m : Bool) : State :=
  if s.conn = .closed then s.raise .notOpen
  else if deviceFails s then (s.drawn.setMode .unconfigured).respond deviceErrorRsp
  else (s.drawn.setMode (selectedMode m)).respond (okRsp)

/-- CFG (R127). -/
def execCfg (m : Bool) (o : Operands) (s : State) : Host.Outcome State Fault Refusal :=
  command s o.arg (cfgRule s m)

/-- WRITE's own rule (R128). -/
def writeRule (s : State) (arg : Bytes) : State :=
  if s.conn = .closed then s.raise .notOpen
  else if s.mode = .unconfigured then s.raise .unconfigured
  else if transferFails s then (s.drawn.txAppend (sentPrefix s arg)).respond ioErrorRsp
  else (s.drawn.txAppend arg).respond (okRsp)

/-- WRITE (R128). -/
def execWrite (o : Operands) (s : State) : Host.Outcome State Fault Refusal :=
  command s o.arg (writeRule s o.arg)

/-- The state after a turn in which a READ that already holds goes on holding, no other agent having
moved (00_scope.md R11): RXQ is still empty, and in Handshake mode the timer has not fired but only has
a turn less to wait. `none` where the READ's step is enabled. -/
def stillHeld (s : State) : Option State :=
  match s.rxq, s.mode, s.hold with
  | [], .streaming, some _ => some s
  | [], .handshake, some (.untilByteOrTimer (k + 1)) => some (s.holdOn (.untilByteOrTimer k))
  | _, _, _ => none

/-- READ's enabled step finds RXQ empty (R129, R130). In Handshake mode the timer decides: it has fired,
or the READ holds until a byte arrives or the timer fires. Otherwise (Streaming) it holds until a byte
arrives. A READ that holds stays at the port and gets no response. -/
def readEmpty (s : State) : State :=
  if s.mode = .handshake then
    match timerLeft s with
    | 0 => s.drawn.respond (okRsp (opt := none))
    | k + 1 => s.drawn.holdOn (.untilByteOrTimer k)
  else s.drawn.holdOn .untilByte

/-- READ's step from its draw on (R130), taken when it is enabled. -/
def readStep (s : State) : State :=
  if transferFails s then
    (if readDrops s then s.drawn.rxPop else s.drawn).respond ioErrorRsp
  else match s.rxq with
    | v :: _ => s.drawn.rxPop.respond (okRsp (opt := some v))
    | [] => readEmpty s

/-- READ's own rule (R130). A READ that holds draws nothing and answers nothing until another agent's
step, an arrival or the timer's firing, enables its step again (00_scope.md R11); that step is then the
whole of R130, its draw of `fail` included (log 19). -/
def readRule (s : State) : State :=
  if s.conn = .closed then s.raise .notOpen
  else if s.mode = .unconfigured then s.raise .unconfigured
  else match stillHeld s with
    | some t => t
    | none => readStep s

/-- READ (R130). -/
def execRead (o : Operands) (s : State) : Host.Outcome State Fault Refusal :=
  command s o.arg (readRule s)

/-- FLUSH's own rule (R132): allowed in every mode. -/
def flushRule (s : State) : State :=
  if s.conn = .closed then s.raise .notOpen
  else s.flushRx.respond (okRsp)

/-- FLUSH (R132). -/
def execFlush (o : Operands) (s : State) : Host.Outcome State Fault Refusal :=
  command s o.arg (flushRule s)

end Sys2Proof.Machine
end

