-- ==== Sys2Proof/Machine/Dispatch.lean ====
section
/-! DEFINITION. One arm per row of the opcode table. -/

namespace Sys2Proof.Machine

def exec (i : Instr) (s : State) : Host.Outcome State Fault Refusal :=
  match i with
  | .crc8 o => Sys2Proof.Machine.execCrc8 o s
  | .openConn o => Sys2Proof.Machine.execOpen o s
  | .closeConn o => Sys2Proof.Machine.execClose o s
  | .cfg m o => Sys2Proof.Machine.execCfg m o s
  | .write o => Sys2Proof.Machine.execWrite o s
  | .read o => Sys2Proof.Machine.execRead o s
  | .flush o => Sys2Proof.Machine.execFlush o s
  | .buildProbe o => Sys2Proof.Machine.execBuildProbe o s
  | .buildErase o => Sys2Proof.Machine.execBuildErase o s
  | .buildData o => Sys2Proof.Machine.execBuildData o s
  | .buildTerm o => Sys2Proof.Machine.execBuildTerm o s
  | .parse o => Sys2Proof.Machine.execParse o s
  | .classify o => Sys2Proof.Machine.execClassify o s
  | .frameProbe => Sys2Proof.Machine.execFrameProbe s
  | .frameErase => Sys2Proof.Machine.execFrameErase s
  | .frameData payload check => Sys2Proof.Machine.execFrameData payload check s
  | .frameTerm => Sys2Proof.Machine.execFrameTerm s
  | .respAck => Sys2Proof.Machine.execRespAck s
  | .respNack => Sys2Proof.Machine.execRespNack s
  | .respTimeout => Sys2Proof.Machine.execRespTimeout s

end Sys2Proof.Machine
end

