-- ==== Sys2Proof/Machine/HostAgent.lean ====
section
/-! DEFINITION. The host agent (60_exceptions.md R214): assembling program lines (30_encoding.md R87,
R88), host statements (R89), and the block slicing that produces BUILD.DATA's operand (43_framer.md
R177, R178). None of this is block state (10_state.md R27). -/

namespace Sys2Proof.Machine

/-! ### Assembler -/

/-- A program line (R87, R88); a host statement of R89 is taken as it is. -/
inductive AsmLine where
  | crc8 (b : ByteExpr)
  | openEp (n : Nat)
  | close
  | cfgHs
  | cfgStream
  | write (b : ByteExpr)
  | read
  | flush
  | buildProbe
  | buildErase
  | buildTerm
  | buildData (b : ByteExpr)
  | parse (b : ByteExpr)
  | classify (o : OptExpr)
  | sendProbe
  | sendErase
  | sendData (b : ByteExpr)
  | sendTerm
  | await
  | statement (op : HostOp)
deriving DecidableEq, Repr

/-- A command with the byte-string operand `b` (R87). The line gives no EP and no OPT, on which R87 is
silent: 0 and None, DESIGN CHOICE (log 21). -/
def argCommand (opc : Byte) (b : ByteExpr) : HostOp := .command opc 0 b .absent

/-- A command without operands (R87); its ARG is empty, DESIGN CHOICE (log 21). -/
def plainCommand (opc : Byte) : HostOp := argCommand opc (.lit [])

/-- One line assembles to one command (R87); a pseudo-instruction to its expansion (R88). A field that
the line does not give holds EP = 0, ARG = [] or OPT = None: DESIGN CHOICE (log 21). -/
def assembleLine : AsmLine → List HostOp
  | .crc8 b => [argCommand 0x10 b]
  | .openEp n => [.command 0x20 n (.lit []) .absent]
  | .close => [plainCommand 0x21]
  | .cfgHs => [plainCommand 0x22]
  | .cfgStream => [plainCommand 0x23]
  | .write b => [argCommand 0x24 b]
  | .read => [plainCommand 0x25]
  | .flush => [plainCommand 0x26]
  | .buildProbe => [plainCommand 0x30]
  | .buildErase => [plainCommand 0x31]
  | .buildData b => [argCommand 0x32 b]
  | .buildTerm => [plainCommand 0x33]
  | .parse b => [argCommand 0x34 b]
  | .classify o => [.command 0x35 0 (.lit []) o]
  | .sendProbe => [plainCommand 0x30, argCommand 0x24 .prevData]
  | .sendErase => [plainCommand 0x31, argCommand 0x24 .prevData]
  | .sendData b => [argCommand 0x32 b, argCommand 0x24 .prevData]
  | .sendTerm => [plainCommand 0x33, argCommand 0x24 .prevData]
  | .await => [plainCommand 0x25, .command 0x35 0 (.lit []) .prevOpt]
  | .statement op => [op]

/-- A whole program. -/
def assemble (lines : List AsmLine) : List HostOp := lines.flatMap assembleLine

/-- The host at the start of a program. -/
def HostState.start (prog : List HostOp) : HostState :=
  { prog := prog, rest := prog, counters := [], outcome := none }

/-- The machine with a host program loaded from outside, whose host waits for nothing (log 15). -/
def State.loadProgram (s : State) (lines : List AsmLine) : State :=
  { s with host := HostState.start (assemble lines), abandoned := false }

/-! ### Operands of a line -/

/-- The value of a byte-string operand, given the preceding response (R87); before any response `$d` is
the empty string (log 17). -/
def evalBytes (rsp : Option Rsp) : ByteExpr → Bytes
  | .lit b => b
  | .rep n v => List.replicate n v
  | .cat a b => evalBytes rsp a ++ evalBytes rsp b
  | .prevData =>
    match rsp with
    | some r => r.data
    | none => []

/-- The value of an option operand (R87); before any response `$o` is None (log 17). -/
def evalOpt (rsp : Option Rsp) : OptExpr → Option Byte
  | .absent => none
  | .byte v => some v
  | .prevOpt => rsp.bind Rsp.opt

/-! ### Host statements -/

/-- A label and a delay are no step of any agent (R89, 70_reset_and_hazards.md R252). -/
def skipNoStep : List HostOp → List HostOp
  | .label _ :: r => skipNoStep r
  | .delay :: r => skipNoStep r
  | r => r

/-- The lines after a label: after the first line that bears it, where several do, and none where the
program has no such label. The spec leaves both open; DESIGN CHOICE (log 16). -/
def linesAfter (l : Nat) : List HostOp → List HostOp
  | [] => []
  | .label l' :: r => if l' = l then r else linesAfter l r
  | _ :: r => linesAfter l r

/-- A counter's value; 0 before any `count` (log 16). -/
def HostState.counter (h : HostState) (k : Nat) : Nat := (h.counters.lookup k).getD 0

/-- Setting a counter. -/
def HostState.setCounter (h : HostState) (k n : Nat) : HostState :=
  { h with counters := (k, n) :: h.counters.filter (fun e => e.1 ≠ k) }

/-- Going on at a label. -/
def HostState.goto (h : HostState) (l : Nat) : HostState :=
  { h with rest := linesAfter l h.prog }

/-- Going on at a label or at `r`, as a test of the preceding response says (R89). -/
def HostState.branch (h : HostState) (taken : Bool) (l : Nat) (r : List HostOp) : HostState :=
  if taken then h.goto l else { h with rest := r }

/-- What the host does at its turn when no command is pending. -/
inductive HostMove where
  /-- Nothing: the program is at its end, or there is none. -/
  | idle
  /-- Issue a command. -/
  | issue (c : Cmd) (h : HostState)
  /-- A host statement. -/
  | move (h : HostState)
deriving DecidableEq, Repr

/-- The host's next move (R87, R89), given the preceding response. -/
def hostMove (rsp : Option Rsp) (h : HostState) : HostMove :=
  match skipNoStep h.rest with
  | [] => .idle
  | .command opc ep a o :: r =>
    .issue ⟨opc, { ep := ep, arg := evalBytes rsp a, opt := evalOpt rsp o }⟩ { h with rest := r }
  | .ifCode code l :: r => .move (h.branch (decide (rsp.map Rsp.code = some code)) l r)
  | .ifStatus st l :: r => .move (h.branch (decide (rsp.map Rsp.status = some st)) l r)
  | .jump l :: _ => .move (h.goto l)
  | .count k n :: r => .move { h.setCounter k n with rest := r }
  | .dec k l :: r =>
    let n := h.counter k - 1
    .move ((h.setCounter k n).branch (decide (n ≠ 0)) l r)
  | .stop name :: _ => .move { h with rest := [], outcome := some name }
  | .label _ :: r => .move { h with rest := r }
  | .delay :: r => .move { h with rest := r }

/-! ### Block slicing -/

/-- The number of blocks of an image of `len` bytes, `ceil(len / 16)` (R178). -/
def blockCount (len : Nat) : Nat := (len + (Config.blockSize - 1)) / Config.blockSize

/-- The `i`-th block of an image, right-padded with PAD_BYTE to 16 bytes (R177). -/
def blockOf (image : Bytes) (i : Nat) : Bytes :=
  let lo := Config.blockSize * i
  let hi := min (Config.blockSize * i + Config.blockSize) image.length
  slice image lo hi ++ List.replicate (Config.blockSize - (hi - lo)) Config.padByte

end Sys2Proof.Machine
end

