-- ==== Sys2Proof/Machine/Turns.lean ====
section
/-! DEFINITION. The turn of the host and the block (60_exceptions.md R211, R214): the pending command is
tried; with none pending the host makes its next move, and a command it issues is tried at once
(00_scope.md R5). -/

namespace Sys2Proof.Machine

/-- Try the command `c`, which stands at the port. -/
def runCommand (c : Cmd) (s : State) : Host.Outcome State Fault Refusal :=
  match decodeCommand c with
  | .instr i => exec i s
  | .reject _ => illegalCommand s

/-- The host puts a command at the port (R214). -/
def State.issue (s : State) (c : Cmd) (h : HostState) : State :=
  { s with port := some c, host := h }

/-- The host carries out a statement. -/
def State.hostMoved (s : State) (h : HostState) : State := { s with host := h }

/-- The turn of the host and the block. A host whose command a reset abandoned waits for its response
for ever (60_exceptions.md R214, R219, log 12). -/
def blockTurn (s : State) : Host.Outcome State Fault Refusal :=
  match s.port with
  | some c => runCommand c s
  | none =>
    if s.abandoned then .next s
    else match hostMove s.rsp s.host with
      | .idle => .next s
      | .issue c h => runCommand c (s.issue c h)
      | .move h => .next (s.hostMoved h)

/-- The turns to come, never none: those of the schedule, or a stretch that the environment draws, whatever
turns it holds, after which the host and the block have a turn again (log 1). -/
def State.plan (s : State) : List Turn :=
  match s.sched with
  | [] => Config.turns s.stretches ++ [.block]
  | u :: r => u :: r

/-- How many stretches are drawn when a turn has been taken. -/
def State.stretchesAfter (s : State) : Nat :=
  match s.sched with
  | [] => s.stretches + 1
  | _ :: _ => s.stretches

/-- Whose turn is next. -/
def State.nextTurn (s : State) : Turn := s.plan.headD .block

/-- The schedule goes on by a turn. -/
def State.turnTaken (s : State) : State :=
  { s with sched := s.plan.tail, stretches := s.stretchesAfter }

/-- One turn (60_exceptions.md R210). -/
def takeTurn (s : State) : Host.Outcome State Fault Refusal :=
  match s.nextTurn with
  | .block => blockTurn s.turnTaken
  | .device v => arrive s.turnTaken v
  | .reset => .next s.turnTaken.resetBlock

/-- The state in which the next turn runs the command that carries a table word (log 15). -/
def State.placeTableWord (s : State) (nbits w : Nat) : State :=
  { s with port := some (carrier (encodedOfTableWord nbits w)), sched := [.block] }

end Sys2Proof.Machine
end

