-- ==== Sys2Proof/Safety.lean ====
section
/-! DEFINITION. The terms claims use: a running block, the invariant, the block's own state, the
instructions by kind, and the end of a run. -/

namespace Sys2Proof.Machine

/-- A block that is not halted (60_exceptions.md R219). -/
abbrev State.running (s : State) : Prop := s.fault = 0x00

/-- A block halted by one of the faults of 10_state.md R32. -/
abbrev State.haltedByFault (s : State) : Prop := 1 ≤ s.fault.toNat ∧ s.fault.toNat ≤ 7

/-- The next turn is the block's with the host (60_exceptions.md R210, log 1). -/
abbrev State.atBlockTurn (s : State) : Prop := s.nextTurn = .block

/-- The command's ARG fits the carrier (30_encoding.md R72). -/
abbrev State.carries (s : State) (arg : Bytes) : Prop := arg.length ≤ s.par.argMax

/-- EP has a value exactly while the connection is open, and it is one of ENDPOINTS (10_state.md R25). -/
abbrev State.epMatchesConn (s : State) : Prop :=
  match s.conn, s.ep with
  | .closed, none => True
  | .opened, some e => s.par.endpoints.has e = true
  | _, _ => False

/-- RXQ is within its capacity (R30). -/
abbrev State.rxWithinCap (s : State) : Prop :=
  match s.par.rxCap with
  | none => True
  | some cap => s.rxq.length ≤ cap

/-- Only a READ is held: in Streaming mode until a byte arrives, in Handshake mode with the timer armed,
which nothing else arms (42_transport.md R129, R142, 60_exceptions.md R226). -/
abbrev State.holdIsARead (s : State) : Prop :=
  match s.hold, s.port with
  | none, _ => True
  | some .untilByte, some c => c.opc = 0x25 ∧ s.mode = .streaming
  | some (.untilByteOrTimer _), some c => c.opc = 0x25 ∧ s.mode = .handshake
  | some _, none => False

/-- The invariant of R38 (closed means unconfigured and empty; the queue within its capacity), with
EP's rule (R25), the reserved fault codes (R32), the bounds of the parameters (00_scope.md R7) and what
may be held (60_exceptions.md R226, 42_transport.md R142). -/
abbrev State.Inv (s : State) : Prop :=
  (s.conn = .closed → s.mode = .unconfigured ∧ s.rxq = []) ∧
  s.epMatchesConn ∧ s.rxWithinCap ∧ s.fault.toNat ≤ 7 ∧ s.par.wf ∧ s.holdIsARead

/-- The block's architectural state and its observation (10_state.md R20). -/
structure BlockState where
  conn : Conn
  ep : Option Nat
  mode : Mode
  rxq : Bytes
  fault : Byte
  txlog : Bytes
deriving DecidableEq, Repr

/-- The block's part of the machine's state. -/
def State.block (s : State) : BlockState :=
  { conn := s.conn, ep := s.ep, mode := s.mode, rxq := s.rxq, fault := s.fault, txlog := s.txlog }

end Sys2Proof.Machine

namespace Sys2Proof

/-- The operands of a command; `none` for a wire row. -/
def Instr.operands? : Instr → Option Operands
  | .crc8 o => some o
  | .openConn o => some o
  | .closeConn o => some o
  | .cfg _ o => some o
  | .write o => some o
  | .read o => some o
  | .flush o => some o
  | .buildProbe o => some o
  | .buildErase o => some o
  | .buildData o => some o
  | .buildTerm o => some o
  | .parse o => some o
  | .classify o => some o
  | .frameProbe => none
  | .frameErase => none
  | .frameData _ _ => none
  | .frameTerm => none
  | .respAck => none
  | .respNack => none
  | .respTimeout => none

/-- The instructions of the serial mux (30_encoding.md R70). -/
def Instr.isMux : Instr → Bool
  | .openConn _ => true
  | .closeConn _ => true
  | .cfg _ _ => true
  | .write _ => true
  | .read _ => true
  | .flush _ => true
  | .crc8 _ => false
  | .buildProbe _ => false
  | .buildErase _ => false
  | .buildData _ => false
  | .buildTerm _ => false
  | .parse _ => false
  | .classify _ => false
  | .frameProbe => false
  | .frameErase => false
  | .frameData _ _ => false
  | .frameTerm => false
  | .respAck => false
  | .respNack => false
  | .respTimeout => false

end Sys2Proof

namespace Sys2Proof.Machine

/-- `n` steps, ending early where a step has no next state. -/
def run : Nat → State → Host.Outcome State Fault Refusal
  | 0, s => .next s
  | n + 1, s =>
    match step s with
    | .next t => run n t
    | .fault r => .fault r
    | .refused r => .refused r

/-- A run is over (60_exceptions.md R231): the host has received the response to its last command (none
is pending, and none was abandoned by a reset), and the block is not halted. R231 leaves open whether
host statements after that response delay the end; here all of them are carried out first, a `stop` or a
`goto` included: DESIGN CHOICE (log 22). -/
abbrev State.runOver (s : State) : Prop :=
  s.port = none ∧ s.abandoned = false ∧ skipNoStep s.host.rest = [] ∧ s.fault = 0x00

/-- The host's duty at the end of a run: the connection is released (42_transport.md R124). -/
abbrev State.released (s : State) : Prop := s.conn = .closed

end Sys2Proof.Machine
end

