-- ==== Sys2Proof/Certificates/Slice0/Obligations.lean ====
section
/-! DEFINITION. The statements for the provers. Where a statement writes a next state as `s` with some
fields changed, every other field is unchanged: that is its frame. The field `draws` is the model's
own counter of free values (log 6), `hold` the model's own record of how the READ at the port
holds, with the timer's wait (log 7). -/

open Sys2Proof Sys2Proof.Machine

/-! ### Encoding -/

/-- 30_encoding.md R75, R80 to R84: no bit of an encoding is dropped. -/
def Obligations.DecodeOfEncodeIsTheInstruction : Prop :=
  ∀ i : Instr, i.wellFormed = true → decode (encode i) = .instr i

/-- R75, R80 to R84: an encoding that decodes has one meaning, whose encoding it is. -/
def Obligations.EncodeOfDecodeIsTheEncoding : Prop :=
  ∀ (e : Encoded) (i : Instr), decode e = .instr i → encode i = e ∧ i.wellFormed = true

/-- R74, R75: the opcode map, that nothing else is in it, CFG's mode bit, and that no two of its rows
overlap. -/
def Obligations.OpcodeMapIsComplete : Prop :=
  (∀ o : Operands,
    decodeCommand ⟨0x10, o⟩ = .instr (.crc8 o) ∧
    decodeCommand ⟨0x20, o⟩ = .instr (.openConn o) ∧
    decodeCommand ⟨0x21, o⟩ = .instr (.closeConn o) ∧
    decodeCommand ⟨0x22, o⟩ = .instr (.cfg false o) ∧
    decodeCommand ⟨0x23, o⟩ = .instr (.cfg true o) ∧
    decodeCommand ⟨0x24, o⟩ = .instr (.write o) ∧
    decodeCommand ⟨0x25, o⟩ = .instr (.read o) ∧
    decodeCommand ⟨0x26, o⟩ = .instr (.flush o) ∧
    decodeCommand ⟨0x30, o⟩ = .instr (.buildProbe o) ∧
    decodeCommand ⟨0x31, o⟩ = .instr (.buildErase o) ∧
    decodeCommand ⟨0x32, o⟩ = .instr (.buildData o) ∧
    decodeCommand ⟨0x33, o⟩ = .instr (.buildTerm o) ∧
    decodeCommand ⟨0x34, o⟩ = .instr (.parse o) ∧
    decodeCommand ⟨0x35, o⟩ = .instr (.classify o)) ∧
  (∀ (c : Cmd) (i : Instr), decodeCommand c = .instr i →
    c.opc ∈ ([0x10, 0x20, 0x21, 0x22, 0x23, 0x24, 0x25, 0x26,
      0x30, 0x31, 0x32, 0x33, 0x34, 0x35] : List Byte)) ∧
  (∀ opc : Byte, selectedMode (opc.getLsbD 0) =
    if opc.toNat % 2 = 0 then .handshake else .streaming) ∧
  ∀ opc : Byte, (opcodeMap.filter fun r => r.hits opc).length ≤ 1

/-- R80 to R84 and the table's own words: a few encodings written out. -/
def Obligations.WrittenWordsDecode : Prop :=
  decodeTableWord 8 0b00010000 = some (.crc8 ⟨0, [], none⟩) ∧
  decodeTableWord 8 0b00100000 = some (.openConn ⟨0, [], none⟩) ∧
  decodeTableWord 8 0b00100011 = some (.cfg true ⟨0, [], none⟩) ∧
  decodeTableWord 8 0b00110010 = some (.buildData ⟨0, [], none⟩) ∧
  decodeTableWord 8 0b00000001 = some .frameProbe ∧
  decodeTableWord 16 0b0001101001111111 = some .frameErase ∧
  decodeTableWord 8 0b00000110 = some .respAck ∧
  decodeTableWord 8 0b00010101 = some .respNack ∧
  decodeTableWord 8 0b00000000 = some .respTimeout ∧
  decodeTableWord 8 0b00000111 = none

/-- R76: the illegal command words are exactly these 242, and each raises ILLEGAL_OP and has no other
effect, whatever its operands. -/
def Obligations.IllegalOpcodesAreTheRest : Prop :=
  (∀ c : Cmd, (∃ r, decodeCommand c = .reject r) ↔
    (c.opc ≤ 0x0F ∨ (0x11 ≤ c.opc ∧ c.opc ≤ 0x1F) ∨ (0x27 ≤ c.opc ∧ c.opc ≤ 0x2F) ∨
      0x36 ≤ c.opc)) ∧
  ∀ (s : State) (c : Cmd), s.running → s.atBlockTurn → s.port = some c →
    (c.opc ≤ 0x0F ∨ (0x11 ≤ c.opc ∧ c.opc ≤ 0x1F) ∨ (0x27 ≤ c.opc ∧ c.opc ≤ 0x2F) ∨
      0x36 ≤ c.opc) →
    step s = .next { s.turnTaken with fault := 0x01, rsp := some ⟨.fault, 0x01, [], none⟩
                                      port := none, hold := none }

/-- R85: the first byte fixes a frame's length, so a stream of frames is cut in one way. -/
def Obligations.FrameLengthByFirstByte : Prop :=
  (∀ v : Byte, frameLength v =
    if v = 0x01 then some 1 else if v = 0x1A then some 2 else if v = 0x02 then some 19
    else if v = 0x04 then some 1 else none) ∧
  ([Config.probeByte, Config.dataStart, Config.dataEnd, Config.termByte, Config.ackByte,
    Config.nackByte, Config.eraseA, Config.eraseB]).Nodup ∧
  ∀ (b rest : Bytes) (i : Instr), decodeFrame b = .instr i → cutFrame (b ++ rest) = some (b, rest)

/-! ### Steps, the schedule, reset -/

/-- 60_exceptions.md R211: the command at the port runs as the instruction it decodes to. Around it a step
takes one turn: the schedule's next, or, with none left, the first of a stretch of any turns that the
environment draws and of the block's turn after it (R210, R212; as the model has it, log 1). -/
def Obligations.StepRunsThePendingCommand : Prop :=
  (∀ (s : State) (c : Cmd) (i : Instr), s.atBlockTurn → s.port = some c →
    decodeCommand c = .instr i → step s = exec i s.turnTaken) ∧
  (∀ (s : State) (u : Turn) (r : List Turn), s.sched = u :: r →
    s.nextTurn = u ∧ s.turnTaken = { s with sched := r }) ∧
  (∀ (s : State) (u : Turn) (r : List Turn), s.sched = [] → Config.turns s.stretches = u :: r →
    s.nextTurn = u ∧ s.turnTaken = { s with sched := r ++ [.block], stretches := s.stretches + 1 }) ∧
  (∀ s : State, s.sched = [] → Config.turns s.stretches = [] →
    s.nextTurn = .block ∧ s.turnTaken = { s with stretches := s.stretches + 1 })

/-- R211, R214, 00_scope.md R5: with no command pending, the next command of the host's program goes
to the port with its operands evaluated, and is tried in the same step; labels and delays before it are
no step (R89). Where its OPC is illegal the same step raises ILLEGAL_OP (R76), or, in a halted block,
leaves it at the port (R219). That issue and first try share a step is the model's choice (log 1). -/
def Obligations.StepIssuesTheHostsCommand : Prop :=
  ∀ (s : State) (opc : Byte) (ep : Nat) (a : ByteExpr) (x : OptExpr) (r : List HostOp),
    s.atBlockTurn → s.port = none → s.abandoned = false →
    skipNoStep s.host.rest = .command opc ep a x :: r →
    (∀ i, decodeCommand ⟨opc, ⟨ep, evalBytes s.rsp a, evalOpt s.rsp x⟩⟩ = .instr i →
      step s = exec i { s.turnTaken with
        port := some ⟨opc, ⟨ep, evalBytes s.rsp a, evalOpt s.rsp x⟩⟩
        host := { s.host with rest := r } }) ∧
    (∀ e, decodeCommand ⟨opc, ⟨ep, evalBytes s.rsp a, evalOpt s.rsp x⟩⟩ = .reject e →
      (s.running → step s = .next { s.turnTaken with
        fault := 0x01, rsp := some ⟨.fault, 0x01, [], none⟩, hold := none
        host := { s.host with rest := r } }) ∧
      (s.haltedByFault → step s = .next { s.turnTaken with
        port := some ⟨opc, ⟨ep, evalBytes s.rsp a, evalOpt s.rsp x⟩⟩
        host := { s.host with rest := r } }))

/-- 42_transport.md R133 to R136: ARRIVE(v). That the value of a byte that arrives unconfigured is a
constant applied to the counter of draws is the model's choice (log 6). The premise on the queue is
part of the invariant. -/
def Obligations.StepTakesTheDevicesByte : Prop :=
  ∀ (s : State) (v : Byte), s.running → s.rxWithinCap → s.nextTurn = .device v →
    step s = .next (
      if s.conn = .closed then s.turnTaken
      else if s.mode = .unconfigured then
        if s.par.rxCap = some s.rxq.length then
          { s.turnTaken with draws := s.draws + 1, fault := 0x07 }
        else { s.turnTaken with draws := s.draws + 1, rxq := s.rxq ++ [Config.drawByte s.draws] }
      else if s.par.rxCap = some s.rxq.length then { s.turnTaken with fault := 0x07 }
      else { s.turnTaken with rxq := s.rxq ++ [v] })

/-- 70_reset_and_hazards.md R240: reset in any state, halted or not; a command that was pending is
abandoned. What is not the block's stays, by the model's choice (log 12). -/
def Obligations.ResetPutsEveryElementAtItsValue : Prop :=
  ∀ s : State, s.nextTurn = .reset →
    step s = .next { s.turnTaken with
      conn := .closed, ep := none, mode := .unconfigured, rxq := [], fault := 0x00, txlog := []
      port := none, hold := none, abandoned := s.abandoned || s.port.isSome }

/-- 10_state.md R39: the reset values. -/
def Obligations.ResetStateValues : Prop :=
  State.reset.conn = .closed ∧ State.reset.ep = none ∧ State.reset.mode = .unconfigured ∧
  State.reset.rxq = [] ∧ State.reset.fault = 0x00 ∧ State.reset.txlog = []

/-- 10_state.md R38: the invariant holds at reset. -/
def Obligations.ResetStateMeetsInvariant : Prop := State.reset.Inv

/-- R38, R25, R30, R32: every step keeps the invariant, from every state that meets it. -/
def Obligations.StepKeepsInvariant : Prop :=
  ∀ s t : State, s.Inv → step s = .next t → t.Inv

/-! ### Halt, faults, checks -/

/-- 60_exceptions.md R219: a halted block takes no command step and no ARRIVE step; the host waits. By
the model's choice such a command is a next state that changes nothing (log 8), the device's turn is
spent and its byte not delivered later (log 11), and with a reserved code in FAULT, which is never
raised, both are refused (93_implementation_defined.md I13, log 9). -/
def Obligations.HaltedBlockTakesNoStep : Prop :=
  (∀ (i : Instr) (s : State), s.haltedByFault → exec i s = .next s) ∧
  (∀ (s : State) (v : Byte), s.haltedByFault → s.nextTurn = .device v → step s = .next s.turnTaken) ∧
  (∀ (s : State) (c : Cmd), s.haltedByFault → s.atBlockTurn → s.port = some c →
    step s = .next s.turnTaken) ∧
  (∀ (i : Instr) (s : State), 7 < s.fault.toNat → exec i s = .refused .reservedFaultCode) ∧
  (∀ (s : State) (v : Byte), 7 < s.fault.toNat → s.nextTurn = .device v →
    step s = .refused .reservedFaultCode) ∧
  (∀ (s : State) (c : Cmd), 7 < s.fault.toNat → s.atBlockTurn → s.port = some c →
    step s = .refused .reservedFaultCode)

/-- 60_exceptions.md R222: while the block is halted no step but a reset resumes it or raises a second
fault: FAULT and the rest of the block stay, no response is handed over, and a command at the port (log 2),
or one the host puts there, stays there. -/
def Obligations.FaultIsStickyUntilReset : Prop :=
  ∀ s t : State, s.fault ≠ 0x00 → step s = .next t →
    (t.block = s.block ∧ t.rsp = s.rsp ∧
      (t.port = s.port ∨
        s.port = none ∧ ∃ c k, hostMove s.rsp s.host = .issue c k ∧ t.port = some c)) ∨
    (s.nextTurn = .reset ∧ t.fault = 0x00)

/-- 30_encoding.md R72, 60_exceptions.md R220: an ARG over ARG_MAX faults for every operation, used
field or not, before the operation's own checks. -/
def Obligations.LongArgumentFaultsForEveryCommand : Prop :=
  ∀ (i : Instr) (o : Operands) (s : State), i.operands? = some o → s.running →
    s.par.argMax < o.arg.length →
    exec i s = .next { s with fault := 0x02, rsp := some ⟨.fault, 0x02, [], none⟩
                              port := none, hold := none }

/-- 60_exceptions.md R218: the state after a fault is the state before with only FAULT changed, and
the fault response is the whole report; an arrival that faults hands over no response (the
counter of draws, which an arrival may advance, is log 6). -/
def Obligations.FaultsArePrecise : Prop :=
  (∀ (i : Instr) (s t : State), s.running → exec i s = .next t → t.fault ≠ 0x00 →
    t = { s with fault := t.fault, rsp := some ⟨.fault, t.fault, [], none⟩
                 port := none, hold := none }) ∧
  (∀ (s t : State) (v : Byte), s.running → s.nextTurn = .device v →
    step s = .next t → t.fault ≠ 0x00 →
    t = { s.turnTaken with fault := t.fault, draws := t.draws })

/-- R216, R217: DEVICE_ERROR comes from OPEN and CFG alone, IO_ERROR from WRITE and READ alone, and
neither writes FAULT. -/
def Obligations.ErrorsComeFromTheirOperations : Prop :=
  ∀ (i : Instr) (s t : State) (r : Rsp), s.running → exec i s = .next t → t.rsp = some r →
    t.rsp ≠ s.rsp →
    (r.status = .deviceError →
      ((∃ o, i = .openConn o) ∨ ∃ m o, i = .cfg m o) ∧ t.fault = s.fault) ∧
    (r.status = .ioError →
      ((∃ o, i = .write o) ∨ ∃ o, i = .read o) ∧ t.fault = s.fault)

/-- 42_transport.md R142: only READ can hold; every other operation completes in one step with a
response whenever the block is not halted. -/
def Obligations.OnlyReadHolds : Prop :=
  ∀ (i : Instr) (s : State), s.running → (∀ o, i ≠ .read o) →
    ∃ t r, exec i s = .next t ∧ t.rsp = some r ∧ t.port = none

/-- R214: while a command is pending the host does nothing, and no other command takes its place; the
same for ever after a reset has abandoned the command it waits for (R219, R240, log 12). -/
def Obligations.HostWaitsForTheResponse : Prop :=
  (∀ (s t : State) (c : Cmd), s.port = some c → step s = .next t →
    t.host = s.host ∧ (t.port = some c ∨ t.port = none)) ∧
  (∀ s t : State, s.port = none → s.abandoned = true → step s = .next t →
    t.host = s.host ∧ t.port = none ∧ t.abandoned = true)

/-! ### The checksum unit -/

/-- 41_checksum.md R100 to R102, the bit step in arithmetic. -/
def Obligations.CrcGoesBitByBit : Prop :=
  (∀ (crc : Byte) (b : Bool), (crc8Bit crc b).toNat =
    if (crc.toNat + b.toNat) % 2 = 1 then (crc.toNat / 2) ^^^ 0x8C else crc.toNat / 2) ∧
  (∀ crc v : Byte, crc8Byte crc v =
    (List.range 8).foldl (fun c k => crc8Bit c (v.getLsbD k)) crc) ∧
  crc8 [] = 0x00 ∧
  ∀ (s : Bytes) (v : Byte), crc8 (s ++ [v]) = crc8Byte (crc8 s) v

/-- R105: the table form. -/
def Obligations.CrcTableAgrees : Prop :=
  crcTable.length = 256 ∧
  (∀ x : Byte, crcTable.getD x.toNat 0x00 = crc8 [x]) ∧
  ∀ c v : Byte, crc8Byte c v = crcTable.getD (c ^^^ v).toNat 0x00

/-- R104 item 2. -/
def Obligations.CrcOfZerosIsZero : Prop := ∀ n : Nat, crc8 (List.replicate n 0x00) = 0x00

/-- R104 item 3. -/
def Obligations.CrcIsLinear : Prop :=
  ∀ a b : Bytes, a.length = b.length →
    crc8 (List.zipWith (fun x y => x ^^^ y) a b) = crc8 a ^^^ crc8 b

/-- R104 item 4. -/
def Obligations.CrcChecksItself : Prop := ∀ s : Bytes, crc8 (s ++ [crc8 s]) = 0x00

/-- R103. The line: what it gives, whatever the other fields hold. -/
def Obligations.Crc8AnswersTheChecksum : Prop :=
  (∀ o : Operands, decodeCommand ⟨0x10, o⟩ = .instr (.crc8 o)) ∧
  (∀ b : ByteExpr, ∃ e x, assembleLine (.crc8 b) = [.command 0x10 e b x]) ∧
  (∀ (o : Operands) (s : State), s.running → s.carries o.arg →
    exec (.crc8 o) s = .next { s with rsp := some ⟨.ok, 0x00, [crc8 o.arg], none⟩
                                      port := none, hold := none }) ∧
  (∀ (o : Operands) (s : State), s.running → s.par.argMax < o.arg.length →
    exec (.crc8 o) s = .next { s with fault := 0x02, rsp := some ⟨.fault, 0x02, [], none⟩
                                      port := none, hold := none })

/-! ### The frame codec -/

/-- 43_framer.md R171, R172, R174. The lines: what they give, whatever the other fields hold. -/
def Obligations.EncodersBuildTheFixedFrames : Prop :=
  (∀ o : Operands, decodeCommand ⟨0x30, o⟩ = .instr (.buildProbe o) ∧
    decodeCommand ⟨0x31, o⟩ = .instr (.buildErase o) ∧
    decodeCommand ⟨0x33, o⟩ = .instr (.buildTerm o)) ∧
  ((∃ e b x, assembleLine .buildProbe = [.command 0x30 e b x]) ∧
    (∃ e b x, assembleLine .buildErase = [.command 0x31 e b x]) ∧
    (∃ e b x, assembleLine .buildTerm = [.command 0x33 e b x])) ∧
  (∀ (o : Operands) (s : State), s.running → s.carries o.arg →
    exec (.buildProbe o) s = .next { s with rsp := some ⟨.ok, 0x00, [0x01], none⟩
                                            port := none, hold := none } ∧
    exec (.buildErase o) s = .next { s with rsp := some ⟨.ok, 0x00, [0x1A, 0x7F], none⟩
                                            port := none, hold := none } ∧
    exec (.buildTerm o) s = .next { s with rsp := some ⟨.ok, 0x00, [0x04], none⟩
                                           port := none, hold := none }) ∧
  ∀ (i : Instr) (o : Operands) (s : State), i = .buildProbe o ∨ i = .buildErase o ∨ i = .buildTerm o →
    s.running → s.par.argMax < o.arg.length →
    exec i s = .next { s with fault := 0x02, rsp := some ⟨.fault, 0x02, [], none⟩
                              port := none, hold := none }

/-- R173. The line: what it gives, whatever the other fields hold. -/
def Obligations.BuildDataFramesTheBlock : Prop :=
  (∀ o : Operands, decodeCommand ⟨0x32, o⟩ = .instr (.buildData o)) ∧
  (∀ b : ByteExpr, ∃ e x, assembleLine (.buildData b) = [.command 0x32 e b x]) ∧
  ∀ (o : Operands) (s : State), s.running → s.carries o.arg →
    (o.arg.length = 16 → exec (.buildData o) s =
      .next { s with rsp := some ⟨.ok, 0x00, [0x02] ++ o.arg ++ [crc8 o.arg] ++ [0x03], none⟩
                     port := none, hold := none }) ∧
    (o.arg.length ≠ 16 → exec (.buildData o) s =
      .next { s with fault := 0x06, rsp := some ⟨.fault, 0x06, [], none⟩
                     port := none, hold := none })

/-- R175: the frames and nothing else. The line: what it gives, whatever the other fields hold. -/
def Obligations.ParseRecognisesExactlyTheFrames : Prop :=
  (∀ o : Operands, decodeCommand ⟨0x34, o⟩ = .instr (.parse o)) ∧
  (∀ b : ByteExpr, ∃ e x, assembleLine (.parse b) = [.command 0x34 e b x]) ∧
  ∀ (o : Operands) (s : State), s.running → s.carries o.arg →
    ∃ r : Rsp,
      exec (.parse o) s = .next { s with rsp := some r, port := none, hold := none } ∧
      (o.arg = [0x01] → r = ⟨.ok, 0x00, [], none⟩) ∧
      (o.arg = [0x1A, 0x7F] → r = ⟨.ok, 0x01, [], none⟩) ∧
      (o.arg = [0x04] → r = ⟨.ok, 0x03, [], none⟩) ∧
      (∀ (p : Bytes) (c : Byte), p.length = 16 → o.arg = [0x02] ++ p ++ [c] ++ [0x03] →
        r = if c = crc8 p then ⟨.ok, 0x02, p, none⟩ else ⟨.ok, 0x04, p, some c⟩) ∧
      (o.arg ≠ [0x01] → o.arg ≠ [0x1A, 0x7F] → o.arg ≠ [0x04] →
        (∀ (p : Bytes) (c : Byte), p.length = 16 → o.arg ≠ [0x02] ++ p ++ [c] ++ [0x03]) →
        r = ⟨.ok, 0x05, [], none⟩)

/-- R176. The line: what it gives, whatever the other fields hold. -/
def Obligations.ClassifyNamesTheResponse : Prop :=
  (∀ o : Operands, decodeCommand ⟨0x35, o⟩ = .instr (.classify o)) ∧
  (∀ x : OptExpr, ∃ e b, assembleLine (.classify x) = [.command 0x35 e b x]) ∧
  ∀ (o : Operands) (s : State), s.running → s.carries o.arg →
    exec (.classify o) s = .next { s with
      rsp := some (match o.opt with
        | none => ⟨.ok, 0x03, [], none⟩
        | some v =>
          if v = 0x00 then ⟨.ok, 0x03, [], none⟩
          else if v = 0x06 then ⟨.ok, 0x00, [], none⟩
          else if v = 0x15 then ⟨.ok, 0x01, [], none⟩
          else ⟨.ok, 0x02, [v], none⟩)
      port := none, hold := none }

/-- 30_encoding.md R80 to R83 by way of R175: a wire frame as the block takes it (log 13). -/
def Obligations.WireFramesAreParsed : Prop :=
  ∀ s : State, s.running → s.par.wf →
    exec .frameProbe s = .next { s with rsp := some ⟨.ok, 0x00, [], none⟩
                                        port := none, hold := none } ∧
    exec .frameErase s = .next { s with rsp := some ⟨.ok, 0x01, [], none⟩
                                        port := none, hold := none } ∧
    exec .frameTerm s = .next { s with rsp := some ⟨.ok, 0x03, [], none⟩
                                       port := none, hold := none } ∧
    ∀ (p : Bytes) (c : Byte), p.length = 16 →
      exec (.frameData p c) s = .next { s with
        rsp := some (if c = crc8 p then ⟨.ok, 0x02, p, none⟩ else ⟨.ok, 0x04, p, some c⟩)
        port := none, hold := none }

/-- R84 by way of R176: a response byte as the block takes it (log 13). -/
def Obligations.ResponseBytesAreClassified : Prop :=
  ∀ s : State, s.running →
    exec .respAck s = .next { s with rsp := some ⟨.ok, 0x00, [], none⟩
                                     port := none, hold := none } ∧
    exec .respNack s = .next { s with rsp := some ⟨.ok, 0x01, [], none⟩
                                      port := none, hold := none } ∧
    exec .respTimeout s = .next { s with rsp := some ⟨.ok, 0x03, [], none⟩
                                         port := none, hold := none }

/-- The command that carries an encoding to the block runs as the instruction encoded (log 13). -/
def Obligations.WireRowsRunThroughTheirCarrier : Prop :=
  ∀ i : Instr, ∃ j : Instr, decodeCommand (carrier (encode i)) = .instr j ∧
    ∀ s : State, exec j s = exec i s

/-- R86, 43_framer.md R175: PARSE reports MALFORMED exactly for what the frame decoder rejects, and
BAD_CHECKSUM exactly for what it takes as a Data frame with a wrong checksum byte. That the decoder takes a
Data frame with any checksum byte, where R86 calls one with a wrong byte no frame, is the model's choice
(log 13). -/
def Obligations.MalformedIsExactlyTheRejected : Prop :=
  ∀ (o : Operands) (s t : State) (r : Rsp), s.running → s.carries o.arg →
    exec (.parse o) s = .next t → t.rsp = some r →
    (r.code = 0x05 ↔ ∃ x, decodeFrame o.arg = .reject x) ∧
    (r.code = 0x04 ↔ ∃ p c, decodeFrame o.arg = .instr (.frameData p c) ∧ c ≠ crc8 p)

/-- 43_framer.md R179: PARSE inverts the encoder, and the encoder is injective. -/
def Obligations.ParseInvertsTheEncoder : Prop :=
  (∀ (i : Instr) (o o' : Operands) (s t : State) (r : Rsp),
    i = .buildProbe o ∨ i = .buildErase o ∨ i = .buildTerm o ∨ (i = .buildData o ∧ o.arg.length = 16) →
    s.running → s.carries o.arg → s.par.wf →
    exec i s = .next t → t.rsp = some r → o'.arg = r.data →
    exec (.parse o') t = .next { t with
      rsp := some (match i with
        | .buildProbe _ => ⟨.ok, 0x00, [], none⟩
        | .buildErase _ => ⟨.ok, 0x01, [], none⟩
        | .buildTerm _ => ⟨.ok, 0x03, [], none⟩
        | _ => ⟨.ok, 0x02, o.arg, none⟩) }) ∧
  (∀ a b : Bytes, a.length = 16 → b.length = 16 →
    [0x02] ++ a ++ [crc8 a] ++ [0x03] = [0x02] ++ b ++ [crc8 b] ++ [0x03] → a = b) ∧
  ([[0x01], [0x1A, 0x7F], [0x04]] : List Bytes).Nodup ∧
  (∀ a : Bytes, a.length = 16 →
    [0x02] ++ a ++ [crc8 a] ++ [0x03] ∉ ([[0x01], [0x1A, 0x7F], [0x04]] : List Bytes))

/-- R180: a single flipped bit in the payload or the checksum byte is always detected. -/
def Obligations.SingleBitErrorsAreDetected : Prop :=
  ∀ (p bad : Bytes) (j k : Nat) (o : Operands) (s : State),
    p.length = 16 → j < 17 → k < 8 →
    bad = (p ++ [crc8 p]).set j ((p ++ [crc8 p]).getD j 0x00 ^^^ (0x01#8 <<< k)) →
    s.running → s.carries o.arg → o.arg = [0x02] ++ bad ++ [0x03] →
    exec (.parse o) s = .next { s with
      rsp := some ⟨.ok, 0x04, bad.take 16, some (bad.getD 16 0x00)⟩, port := none, hold := none }

/-- R170, 41_checksum.md R103, 10_state.md R21, R22: outside the serial mux an operation is a function of
its operands (and of ARG_MAX): in every running state it gives the same response and the same fault,
never DEVICE_ERROR or IO_ERROR, never holds, and changes nothing else. FAULT is written only where the
response is a fault, with the code it carries. -/
def Obligations.OtherUnitsArePure : Prop :=
  ∀ (i : Instr) (m : Nat), i.isMux = false →
    ∃ (r : Rsp) (f : Byte),
      ((r.status = .ok ∧ f = 0x00) ∨ (r.status = .fault ∧ f = r.code ∧ f ≠ 0x00)) ∧
      ∀ s : State, s.running → s.par.argMax = m →
        exec i s = .next { s with fault := f, rsp := some r, port := none, hold := none }

/-! ### The serial mux -/

/-- 42_transport.md R122. That a failure is drawn as a constant applied to the counter of draws, which
the step then advances, is the model's choice (log 6), and so are the fields the line does not give
(log 21). -/
def Obligations.OpenOutcomes : Prop :=
  (∀ o : Operands, decodeCommand ⟨0x20, o⟩ = .instr (.openConn o)) ∧
  (∀ n : Nat, assembleLine (.openEp n) = [.command 0x20 n (.lit []) .absent]) ∧
  ∀ (o : Operands) (s : State), s.running → s.carries o.arg →
    exec (.openConn o) s = .next (
      if s.conn = .opened then
        { s with fault := 0x04, rsp := some ⟨.fault, 0x04, [], none⟩, port := none, hold := none }
      else if s.par.endpoints.has o.ep = false then
        { s with rsp := some ⟨.deviceError, 0x00, [], none⟩, port := none, hold := none }
      else if s.par.devErrors = true ∧ Config.drawFail s.draws = true then
        { s with draws := s.draws + 1, rsp := some ⟨.deviceError, 0x00, [], none⟩
                 port := none, hold := none }
      else
        { s with draws := s.draws + 1, conn := .opened, ep := some o.ep, mode := .unconfigured
                 rxq := [], rsp := some ⟨.ok, 0x00, [], none⟩, port := none, hold := none })

/-- R122: where no failure can be drawn, OPEN of a known endpoint opens it (the counter of
draws is log 6). -/
def Obligations.OpenCompletes : Prop :=
  ∀ (o : Operands) (s : State), s.running → s.carries o.arg → s.conn = .closed →
    s.par.endpoints.has o.ep = true → s.par.devErrors = false →
    exec (.openConn o) s = .next { s with
      draws := s.draws + 1, conn := .opened, ep := some o.ep, mode := .unconfigured, rxq := []
      rsp := some ⟨.ok, 0x00, [], none⟩, port := none, hold := none }

/-- R125. The line: what it gives, whatever the other fields hold. -/
def Obligations.CloseReleases : Prop :=
  (∀ o : Operands, decodeCommand ⟨0x21, o⟩ = .instr (.closeConn o)) ∧
  (∃ e b x, assembleLine .close = [.command 0x21 e b x]) ∧
  ∀ (o : Operands) (s : State), s.running → s.carries o.arg →
    exec (.closeConn o) s = .next { s with
      conn := .closed, ep := none, mode := .unconfigured, rxq := []
      rsp := some ⟨.ok, 0x00, [], none⟩, port := none, hold := none }

/-- R127, 30_encoding.md R74. The drawn failure and the counter of draws are the model's choice
(log 6), and so are the fields the lines do not give (log 21). -/
def Obligations.CfgOutcomes : Prop :=
  (∀ o : Operands, decodeCommand ⟨0x22, o⟩ = .instr (.cfg false o) ∧
    decodeCommand ⟨0x23, o⟩ = .instr (.cfg true o)) ∧
  (assembleLine .cfgHs = [.command 0x22 0 (.lit []) .absent] ∧
    assembleLine .cfgStream = [.command 0x23 0 (.lit []) .absent]) ∧
  ∀ (m : Bool) (o : Operands) (s : State), s.running → s.carries o.arg →
    exec (.cfg m o) s = .next (
      if s.conn = .closed then
        { s with fault := 0x03, rsp := some ⟨.fault, 0x03, [], none⟩, port := none, hold := none }
      else if s.par.devErrors = true ∧ Config.drawFail s.draws = true then
        { s with draws := s.draws + 1, mode := .unconfigured
                 rsp := some ⟨.deviceError, 0x00, [], none⟩, port := none, hold := none }
      else
        { s with draws := s.draws + 1, mode := if m then .streaming else .handshake
                 rsp := some ⟨.ok, 0x00, [], none⟩, port := none, hold := none })

/-- R127: where no failure can be drawn, CFG on an open connection sets the mode (the counter
of draws is log 6). -/
def Obligations.CfgCompletes : Prop :=
  ∀ (m : Bool) (o : Operands) (s : State), s.running → s.carries o.arg → s.conn = .opened →
    s.par.devErrors = false →
    exec (.cfg m o) s = .next { s with
      draws := s.draws + 1, mode := if m then .streaming else .handshake
      rsp := some ⟨.ok, 0x00, [], none⟩, port := none, hold := none }

/-- R128; the drawn `k` lies in 0..|ARG|. The drawn failure, `k` and the counter of draws are the
model's choice (log 6), and so are the fields the line does not give (log 21). -/
def Obligations.WriteOutcomes : Prop :=
  (∀ o : Operands, decodeCommand ⟨0x24, o⟩ = .instr (.write o)) ∧
  (∀ b : ByteExpr, assembleLine (.write b) = [.command 0x24 0 b .absent]) ∧
  ∀ (o : Operands) (s : State), s.running → s.carries o.arg →
    ∃ k, k ≤ o.arg.length ∧
    exec (.write o) s = .next (
      if s.conn = .closed then
        { s with fault := 0x03, rsp := some ⟨.fault, 0x03, [], none⟩, port := none, hold := none }
      else if s.mode = .unconfigured then
        { s with fault := 0x05, rsp := some ⟨.fault, 0x05, [], none⟩, port := none, hold := none }
      else if s.par.ioErrors = true ∧ Config.drawFail s.draws = true then
        { s with draws := s.draws + 1, txlog := s.txlog ++ o.arg.take k
                 rsp := some ⟨.ioError, 0x00, [], none⟩, port := none, hold := none }
      else
        { s with draws := s.draws + 1, txlog := s.txlog ++ o.arg
                 rsp := some ⟨.ok, 0x00, [], none⟩, port := none, hold := none })

/-- R128: where no failure can be drawn, WRITE on a configured connection hands over all of ARG
(the counter of draws is log 6). -/
def Obligations.WriteCompletes : Prop :=
  ∀ (o : Operands) (s : State), s.running → s.carries o.arg → s.conn = .opened →
    s.mode ≠ .unconfigured → s.par.ioErrors = false →
    exec (.write o) s = .next { s with
      draws := s.draws + 1, txlog := s.txlog ++ o.arg
      rsp := some ⟨.ok, 0x00, [], none⟩, port := none, hold := none }

/-- R129, R130, 00_scope.md R11. A READ that holds with RXQ empty goes on holding, without a draw, until
another agent moves; otherwise its step is taken. The drawn failure and the counter of draws (log 6),
and the timeout as a wait of free length (log 7), are the model's choice; that the step a held READ is
re-enabled for draws its failure is log 19. -/
def Obligations.ReadOutcomes : Prop :=
  ∀ (o : Operands) (s : State), s.running → s.carries o.arg →
    exec (.read o) s = .next (
      if s.conn = .closed then
        { s with fault := 0x03, rsp := some ⟨.fault, 0x03, [], none⟩, port := none, hold := none }
      else if s.mode = .unconfigured then
        { s with fault := 0x05, rsp := some ⟨.fault, 0x05, [], none⟩, port := none, hold := none }
      else match s.rxq, s.mode, s.hold with
      | [], .streaming, some _ => s
      | [], .handshake, some (.untilByteOrTimer (k + 1)) =>
        { s with hold := some (.untilByteOrTimer k) }
      | _, _, _ =>
      if s.par.ioErrors = true ∧ Config.drawFail s.draws = true then
        { s with draws := s.draws + 1
                 rxq := if Config.drawDrop s.draws = true then s.rxq.drop 1 else s.rxq
                 rsp := some ⟨.ioError, 0x00, [], none⟩, port := none, hold := none }
      else match s.rxq with
        | v :: q => { s with draws := s.draws + 1, rxq := q
                             rsp := some ⟨.ok, 0x00, [], some v⟩, port := none, hold := none }
        | [] =>
          if s.mode = .streaming then { s with draws := s.draws + 1, hold := some .untilByte }
          else match s.hold with
            | some (.untilByteOrTimer _) =>
              { s with draws := s.draws + 1, rsp := some ⟨.ok, 0x00, [], none⟩
                       port := none, hold := none }
            | _ => match Config.timerWait s.draws with
              | 0 => { s with draws := s.draws + 1, rsp := some ⟨.ok, 0x00, [], none⟩
                              port := none, hold := none }
              | w + 1 => { s with draws := s.draws + 1, hold := some (.untilByteOrTimer w) })

/-- R130: where no failure can be drawn, READ returns the oldest byte at once, in either mode
(the counter of draws is log 6). -/
def Obligations.ReadReturnsTheOldestByte : Prop :=
  ∀ (o : Operands) (s : State) (v : Byte) (q : Bytes), s.running → s.carries o.arg →
    s.conn = .opened → s.mode ≠ .unconfigured → s.par.ioErrors = false → s.rxq = v :: q →
    exec (.read o) s = .next { s with
      draws := s.draws + 1, rxq := q
      rsp := some ⟨.ok, 0x00, [], some v⟩, port := none, hold := none }

/-- R132. The line: what it gives, whatever the other fields hold. -/
def Obligations.FlushDiscardsInput : Prop :=
  (∀ o : Operands, decodeCommand ⟨0x26, o⟩ = .instr (.flush o)) ∧
  (∃ e b x, assembleLine .flush = [.command 0x26 e b x]) ∧
  ∀ (o : Operands) (s : State), s.running → s.carries o.arg →
    (s.conn = .opened → exec (.flush o) s = .next { s with
      rxq := [], rsp := some ⟨.ok, 0x00, [], none⟩, port := none, hold := none }) ∧
    (s.conn = .closed → exec (.flush o) s = .next { s with
      fault := 0x03, rsp := some ⟨.fault, 0x03, [], none⟩, port := none, hold := none })

/-- 10_state.md R37 with R24 to R31, 42_transport.md R122 and R125: which operation writes which
element. R25, R30 and R37 do not name CLOSE as a writer of EP or OPEN as a writer of RXQ; R125 and R122
do, and are followed (log 20). -/
def Obligations.ElementsHaveTheirWriters : Prop :=
  ∀ (i : Instr) (s t : State), exec i s = .next t →
    (t.conn = s.conn ∨ (∃ o, i = .openConn o ∧ t.conn = .opened) ∨
      (∃ o, i = .closeConn o ∧ t.conn = .closed)) ∧
    (t.ep = s.ep ∨ (∃ o, i = .openConn o ∧ t.ep = some o.ep) ∨
      (∃ o, i = .closeConn o ∧ t.ep = none)) ∧
    (t.mode = s.mode ∨ (∃ o, (i = .openConn o ∨ i = .closeConn o) ∧ t.mode = .unconfigured) ∨
      (∃ m o, i = .cfg m o)) ∧
    (t.rxq = s.rxq ∨ (∃ o, (i = .openConn o ∨ i = .closeConn o ∨ i = .flush o) ∧ t.rxq = []) ∨
      (∃ o, i = .read o ∧ t.rxq = s.rxq.drop 1)) ∧
    (t.txlog = s.txlog ∨ ∃ o x, i = .write o ∧ x <+: o.arg ∧ t.txlog = s.txlog ++ x) ∧
    t.par = s.par ∧ t.sched = s.sched ∧ t.stretches = s.stretches ∧
    t.host = s.host ∧ t.abandoned = s.abandoned

/-- 42_transport.md R138, 20_memory.md R54: TXLOG only grows, at its end, but for reset; and bytes are
added only by the WRITE that is at the port or that the host issues: all of its ARG where it answers OK,
a prefix where it answers IO_ERROR. -/
def Obligations.TransmitLogOnlyGrows : Prop :=
  ∀ s t : State, step s = .next t →
    (s.nextTurn = .reset ∧ t.txlog = []) ∨ t.txlog = s.txlog ∨
    ∃ (c : Cmd) (o : Operands) (x : Bytes) (r : Rsp),
      s.atBlockTurn ∧
      (s.port = some c ∨ (s.port = none ∧ ∃ k, hostMove s.rsp s.host = .issue c k)) ∧
      decodeCommand c = .instr (.write o) ∧ t.txlog = s.txlog ++ x ∧ t.rsp = some r ∧
      ((r.status = .ok ∧ x = o.arg) ∨ (r.status = .ioError ∧ x <+: o.arg))

/-- 20_memory.md R62, R53, 42_transport.md R137: a step adds one byte at the end of RXQ, takes one from
its head, discards all of it, or leaves it: no byte is reordered or duplicated. -/
def Obligations.ReceiveQueueIsFifo : Prop :=
  ∀ s t : State, step s = .next t →
    t.rxq = s.rxq ∨ (∃ v, s.nextTurn = .device v ∧ ∃ w, t.rxq = s.rxq ++ [w]) ∨
    t.rxq = s.rxq.drop 1 ∨ t.rxq = []

/-- R133, R137, 20_memory.md R62: bytes that arrive on a configured connection with room for them all
stand in RXQ in the order in which the device sent them, none lost. -/
def Obligations.ArrivalsKeepTheirOrder : Prop :=
  ∀ (s : State) (b : Bytes) (q : List Turn), s.running → s.conn = .opened → s.mode ≠ .unconfigured →
    (∀ cap, s.par.rxCap = some cap → s.rxq.length + b.length ≤ cap) →
    s.sched = b.map .device ++ q →
    run b.length s = .next { s with rxq := s.rxq ++ b, sched := q }

/-- R139: in Streaming mode READ never answers OK with None. -/
def Obligations.StreamingReadNeverTimesOut : Prop :=
  ∀ (o : Operands) (s t : State), s.mode = .streaming → s.running → exec (.read o) s = .next t →
    (t.rsp = s.rsp ∧ t.port = s.port ∧ t.rxq = s.rxq ∧ s.rxq = []) ∨
    (∃ r, t.rsp = some r ∧ t.port = none ∧ (r.status = .ok → ∃ v, r.opt = some v))

/-- R140, 60_exceptions.md R213: a Handshake READ at the port completes, with a byte or a timeout or
IO_ERROR: within any turns that are enough, have no reset and bring no more bytes than fit the queue; and
whatever the device does, unless a byte overflows a bounded queue, which halts the block (R134), or a
reset comes, which abandons the READ (R240). The finite wait is the model's reading of weak fairness
(log 7), and that the block's turn comes again is log 1. -/
def Obligations.HandshakeReadCompletes : Prop :=
  ∀ (s : State) (c : Cmd) (o : Operands), s.running → s.carries o.arg → s.conn = .opened →
    s.mode = .handshake → s.port = some c → decodeCommand c = .instr (.read o) →
    (∃ w : Nat, ∀ q : List Turn, w ≤ q.count .block → .reset ∉ q →
      (∀ cap, s.par.rxCap = some cap →
        s.rxq.length + (q.filter fun u => u ≠ .block).length ≤ cap) →
      ∃ (n : Nat) (t : State) (r : Rsp), n ≤ q.length ∧ run n { s with sched := q } = .next t ∧
        t.port = none ∧ t.rsp = some r ∧ (r.status = .ok ∨ r.status = .ioError)) ∧
    ∃ (n : Nat) (t : State), run n s = .next t ∧
      ((t.port = none ∧ ∃ r, t.rsp = some r ∧ (r.status = .ok ∨ r.status = .ioError)) ∨
        (t.fault = 0x07 ∧ s.par.rxCap ≠ none) ∨ t.nextTurn = .reset)

/-- R141, R129, 00_scope.md R11: a Streaming READ with RXQ empty holds for any number of turns in which no
agent but the block moves; once it holds it draws no failure, so that it answers nothing whatever
IO_ERRORS is. A held Handshake READ likewise does nothing until the timer's wait is over. The schedule is
log 1, the first step's counter of draws log 6, the wait log 7. -/
def Obligations.SilentStreamingReadHolds : Prop :=
  ∀ (s : State) (c : Cmd) (o : Operands) (n : Nat), s.running → s.carries o.arg →
    s.conn = .opened → s.rxq = [] → s.port = some c → decodeCommand c = .instr (.read o) →
    (∀ (k : Nat) (t : State), k < n → run k s = .next t → t.nextTurn = .block) →
    ∃ (q : List Turn) (p : Nat),
      (s.mode = .streaming → s.hold ≠ none →
        run n s = .next { s with sched := q, stretches := p }) ∧
      (s.mode = .streaming → s.hold = none → s.par.ioErrors = false → 0 < n →
        run n s = .next { s with draws := s.draws + 1, hold := some .untilByte
                                 sched := q, stretches := p }) ∧
      (∀ k, s.mode = .handshake → s.hold = some (.untilByteOrTimer (n + k)) →
        run n s = .next { s with hold := some (.untilByteOrTimer k), sched := q, stretches := p })

/-- 70_reset_and_hazards.md R242: OPEN, then CFG, then WRITE works from any closed connection where no
environment error can be drawn, and WRITE without CFG faults. -/
def Obligations.BootOrderGivesAUsableConnection : Prop :=
  ∀ (s : State) (m : Bool) (o1 o2 o3 : Operands), s.running → s.conn = .closed →
    s.par.endpoints.has o1.ep = true → s.par.devErrors = false → s.par.ioErrors = false →
    s.carries o1.arg → s.carries o2.arg → s.carries o3.arg →
    ∃ a b c d : State, exec (.openConn o1) s = .next a ∧
      exec (.cfg m o2) a = .next b ∧ exec (.write o3) b = .next c ∧
      c.txlog = s.txlog ++ o3.arg ∧ c.rsp = some ⟨.ok, 0x00, [], none⟩ ∧ c.fault = 0x00 ∧
      exec (.write o3) a = .next d ∧ d.txlog = s.txlog ∧ d.fault = 0x05

/-! ### The host agent -/

/-- 30_encoding.md R87: lines to commands, and the operand forms. Labels, comments and the spelling of
lines are text and not modelled. The fields a line does not give (EP 0, ARG [], OPT None) are the model's
choice (log 21). -/
def Obligations.LinesAssembleToCommands : Prop :=
  (∀ (b : ByteExpr) (x : OptExpr) (n : Nat),
    assembleLine (.crc8 b) = [.command 0x10 0 b .absent] ∧
    assembleLine (.openEp n) = [.command 0x20 n (.lit []) .absent] ∧
    assembleLine .close = [.command 0x21 0 (.lit []) .absent] ∧
    assembleLine .cfgHs = [.command 0x22 0 (.lit []) .absent] ∧
    assembleLine .cfgStream = [.command 0x23 0 (.lit []) .absent] ∧
    assembleLine (.write b) = [.command 0x24 0 b .absent] ∧
    assembleLine .read = [.command 0x25 0 (.lit []) .absent] ∧
    assembleLine .flush = [.command 0x26 0 (.lit []) .absent] ∧
    assembleLine .buildProbe = [.command 0x30 0 (.lit []) .absent] ∧
    assembleLine .buildErase = [.command 0x31 0 (.lit []) .absent] ∧
    assembleLine .buildTerm = [.command 0x33 0 (.lit []) .absent] ∧
    assembleLine (.buildData b) = [.command 0x32 0 b .absent] ∧
    assembleLine (.parse b) = [.command 0x34 0 b .absent] ∧
    assembleLine (.classify x) = [.command 0x35 0 (.lit []) x]) ∧
  ∀ (p : Option Rsp) (r : Rsp) (x y : ByteExpr) (b : Bytes) (n : Nat) (v : Byte),
    evalBytes p (.lit b) = b ∧
    evalBytes p (.rep n v) = List.replicate n v ∧
    evalBytes p (.cat x y) = evalBytes p x ++ evalBytes p y ∧
    evalBytes (some r) .prevData = r.data ∧
    evalOpt p .absent = none ∧ evalOpt p (.byte v) = some v ∧
    evalOpt (some r) .prevOpt = r.opt

/-- R88: the pseudo-instructions, written by the lines they expand to. -/
def Obligations.PseudoInstructionsExpand : Prop :=
  (assembleLine .sendProbe = assemble [.buildProbe, .write .prevData]) ∧
  (assembleLine .sendErase = assemble [.buildErase, .write .prevData]) ∧
  (∀ b, assembleLine (.sendData b) = assemble [.buildData b, .write .prevData]) ∧
  (assembleLine .sendTerm = assemble [.buildTerm, .write .prevData]) ∧
  (assembleLine .await = assemble [.read, .classify .prevOpt])

/-- R89: a host statement changes the host alone, a label and a delay are no step, and each statement
goes on as R89 says, the tests given a preceding response and `dec` given a counter that is set. A jump
goes on after the label's line, the first where several bear the label; that it is the first, and what
a label the program does not have does (not claimed here), is the model's choice (log 16). A counter is
set alone. R211: where the host issues nothing, the block executes nothing. -/
def Obligations.HostStatementsMoveTheHostAlone : Prop :=
  (∀ (s : State) (k : HostState), s.atBlockTurn → s.port = none → s.abandoned = false →
    hostMove s.rsp s.host = .move k →
    step s = .next { s.turnTaken with host := k }) ∧
  (∀ s : State, s.atBlockTurn → s.port = none →
    (s.abandoned = true ∨ hostMove s.rsp s.host = .idle) →
    step s = .next s.turnTaken) ∧
  (∀ (p : Option Rsp) (h : HostState) (r : List HostOp) (l k n : Nat),
    hostMove p { h with rest := [] } = .idle ∧
    hostMove p { h with rest := .delay :: r } = hostMove p { h with rest := r } ∧
    hostMove p { h with rest := .label l :: r } = hostMove p { h with rest := r } ∧
    hostMove p { h with rest := .jump l :: r } = .move { h with rest := linesAfter l h.prog } ∧
    hostMove p { h with rest := .stop n :: r } = .move { h with rest := [], outcome := some n } ∧
    hostMove p { h with rest := .count k n :: r } = .move { h.setCounter k n with rest := r } ∧
    (h.setCounter k n).counter k = n ∧
    (∀ j, j ≠ k → (h.setCounter k n).counter j = h.counter j) ∧
    (h.setCounter k n).prog = h.prog ∧ (h.setCounter k n).outcome = h.outcome ∧
    (h.counter k = n + 1 → hostMove p { h with rest := .dec k l :: r } =
      .move { h.setCounter k n with rest := if n ≠ 0 then linesAfter l h.prog else r })) ∧
  (∀ (a : Rsp) (h : HostState) (r : List HostOp) (code : Byte) (st : Status) (l : Nat),
    hostMove (some a) { h with rest := .ifCode code l :: r } =
      .move { h with rest := if a.code = code then linesAfter l h.prog else r } ∧
    hostMove (some a) { h with rest := .ifStatus st l :: r } =
      .move { h with rest := if a.status = st then linesAfter l h.prog else r }) ∧
  (∀ (l : Nat) (pre post : List HostOp), .label l ∉ pre →
    linesAfter l (pre ++ .label l :: post) = post)

/-- 43_framer.md R177, R178: the blocks of an image are 16 bytes each, as many as R178 says, and together
are the image with its padding of 0xFF, at most 15 bytes of it. -/
def Obligations.BlocksCoverTheImage : Prop :=
  ∀ image : Bytes,
    (∀ k, k < blockCount image.length → (blockOf image k).length = 16) ∧
    image.length ≤ 16 * blockCount image.length ∧
    16 * blockCount image.length - image.length ≤ 15 ∧
    (List.range (blockCount image.length)).flatMap (blockOf image) =
      image ++ List.replicate (16 * blockCount image.length - image.length) 0xFF

/-- 60_exceptions.md R231 with R214, R219, 70_reset_and_hazards.md R240: a run whose pending command a
reset cuts off is never over, whatever steps follow, since the host never has the response to its last
command; nor is one over while a command is pending, or while the block is halted. That the host waits
for the abandoned command is the model's reading (log 12); when the host's remaining statements end a run
(log 22) plays no part here. -/
def Obligations.RunCutOffByResetIsNeverOver : Prop :=
  (∀ (s : State) (c : Cmd) (n : Nat) (t : State), s.port = some c → s.nextTurn = .reset → run (n + 1) s = .next t → ¬ t.runOver) ∧
  ∀ s : State, (s.port ≠ none ∨ s.fault ≠ 0x00) → ¬ s.runOver
end

