-- ==== Sys2Proof/Laws/State.lean ====
section
/-! SUPPORT. What each named update of the state does to each field: one lemma a field and update. -/

namespace Sys2Proof.Machine

/-- The endpoints of the machine as built are any set. -/
@[simp] theorem endpoints_has_asBuilt (e : Nat) :
    Config.Endpoints.asBuilt.has e = Config.isEndpoint e := rfl

/-- The endpoints listed are those of the list. -/
@[simp] theorem endpoints_has_listed (ids : List Nat) (e : Nat) :
    (Config.Endpoints.listed ids).has e = ids.contains e := rfl

@[simp] theorem State.respond_conn (s : State) (r : Rsp) : (s.respond r).conn = s.conn := rfl
@[simp] theorem State.respond_ep (s : State) (r : Rsp) : (s.respond r).ep = s.ep := rfl
@[simp] theorem State.respond_mode (s : State) (r : Rsp) : (s.respond r).mode = s.mode := rfl
@[simp] theorem State.respond_rxq (s : State) (r : Rsp) : (s.respond r).rxq = s.rxq := rfl
@[simp] theorem State.respond_fault (s : State) (r : Rsp) : (s.respond r).fault = s.fault := rfl
@[simp] theorem State.respond_txlog (s : State) (r : Rsp) : (s.respond r).txlog = s.txlog := rfl
@[simp] theorem State.respond_port (s : State) (r : Rsp) : (s.respond r).port = none := rfl
@[simp] theorem State.respond_abandoned (s : State) (r : Rsp) : (s.respond r).abandoned = s.abandoned := rfl
@[simp] theorem State.respond_rsp (s : State) (r : Rsp) : (s.respond r).rsp = some r := rfl
@[simp] theorem State.respond_par (s : State) (r : Rsp) : (s.respond r).par = s.par := rfl
@[simp] theorem State.respond_sched (s : State) (r : Rsp) : (s.respond r).sched = s.sched := rfl
@[simp] theorem State.respond_stretches (s : State) (r : Rsp) : (s.respond r).stretches = s.stretches := rfl
@[simp] theorem State.respond_host (s : State) (r : Rsp) : (s.respond r).host = s.host := rfl
@[simp] theorem State.respond_draws (s : State) (r : Rsp) : (s.respond r).draws = s.draws := rfl
@[simp] theorem State.respond_hold (s : State) (r : Rsp) : (s.respond r).hold = none := rfl

@[simp] theorem State.raise_conn (s : State) (f : FaultCode) : (s.raise f).conn = s.conn := rfl
@[simp] theorem State.raise_ep (s : State) (f : FaultCode) : (s.raise f).ep = s.ep := rfl
@[simp] theorem State.raise_mode (s : State) (f : FaultCode) : (s.raise f).mode = s.mode := rfl
@[simp] theorem State.raise_rxq (s : State) (f : FaultCode) : (s.raise f).rxq = s.rxq := rfl
@[simp] theorem State.raise_fault (s : State) (f : FaultCode) : (s.raise f).fault = f.code := rfl
@[simp] theorem State.raise_txlog (s : State) (f : FaultCode) : (s.raise f).txlog = s.txlog := rfl
@[simp] theorem State.raise_port (s : State) (f : FaultCode) : (s.raise f).port = none := rfl
@[simp] theorem State.raise_abandoned (s : State) (f : FaultCode) : (s.raise f).abandoned = s.abandoned := rfl
@[simp] theorem State.raise_rsp (s : State) (f : FaultCode) : (s.raise f).rsp = some (faultRsp f) := rfl
@[simp] theorem State.raise_par (s : State) (f : FaultCode) : (s.raise f).par = s.par := rfl
@[simp] theorem State.raise_sched (s : State) (f : FaultCode) : (s.raise f).sched = s.sched := rfl
@[simp] theorem State.raise_stretches (s : State) (f : FaultCode) : (s.raise f).stretches = s.stretches := rfl
@[simp] theorem State.raise_host (s : State) (f : FaultCode) : (s.raise f).host = s.host := rfl
@[simp] theorem State.raise_draws (s : State) (f : FaultCode) : (s.raise f).draws = s.draws := rfl
@[simp] theorem State.raise_hold (s : State) (f : FaultCode) : (s.raise f).hold = none := rfl

@[simp] theorem State.raiseInArrival_conn (s : State) (f : FaultCode) : (s.raiseInArrival f).conn = s.conn := rfl
@[simp] theorem State.raiseInArrival_ep (s : State) (f : FaultCode) : (s.raiseInArrival f).ep = s.ep := rfl
@[simp] theorem State.raiseInArrival_mode (s : State) (f : FaultCode) : (s.raiseInArrival f).mode = s.mode := rfl
@[simp] theorem State.raiseInArrival_rxq (s : State) (f : FaultCode) : (s.raiseInArrival f).rxq = s.rxq := rfl
@[simp] theorem State.raiseInArrival_fault (s : State) (f : FaultCode) : (s.raiseInArrival f).fault = f.code := rfl
@[simp] theorem State.raiseInArrival_txlog (s : State) (f : FaultCode) : (s.raiseInArrival f).txlog = s.txlog := rfl
@[simp] theorem State.raiseInArrival_port (s : State) (f : FaultCode) : (s.raiseInArrival f).port = s.port := rfl
@[simp] theorem State.raiseInArrival_abandoned (s : State) (f : FaultCode) : (s.raiseInArrival f).abandoned = s.abandoned := rfl
@[simp] theorem State.raiseInArrival_rsp (s : State) (f : FaultCode) : (s.raiseInArrival f).rsp = s.rsp := rfl
@[simp] theorem State.raiseInArrival_par (s : State) (f : FaultCode) : (s.raiseInArrival f).par = s.par := rfl
@[simp] theorem State.raiseInArrival_sched (s : State) (f : FaultCode) : (s.raiseInArrival f).sched = s.sched := rfl
@[simp] theorem State.raiseInArrival_stretches (s : State) (f : FaultCode) : (s.raiseInArrival f).stretches = s.stretches := rfl
@[simp] theorem State.raiseInArrival_host (s : State) (f : FaultCode) : (s.raiseInArrival f).host = s.host := rfl
@[simp] theorem State.raiseInArrival_draws (s : State) (f : FaultCode) : (s.raiseInArrival f).draws = s.draws := rfl
@[simp] theorem State.raiseInArrival_hold (s : State) (f : FaultCode) : (s.raiseInArrival f).hold = s.hold := rfl

@[simp] theorem State.drawn_conn (s : State) : s.drawn.conn = s.conn := rfl
@[simp] theorem State.drawn_ep (s : State) : s.drawn.ep = s.ep := rfl
@[simp] theorem State.drawn_mode (s : State) : s.drawn.mode = s.mode := rfl
@[simp] theorem State.drawn_rxq (s : State) : s.drawn.rxq = s.rxq := rfl
@[simp] theorem State.drawn_fault (s : State) : s.drawn.fault = s.fault := rfl
@[simp] theorem State.drawn_txlog (s : State) : s.drawn.txlog = s.txlog := rfl
@[simp] theorem State.drawn_port (s : State) : s.drawn.port = s.port := rfl
@[simp] theorem State.drawn_abandoned (s : State) : s.drawn.abandoned = s.abandoned := rfl
@[simp] theorem State.drawn_rsp (s : State) : s.drawn.rsp = s.rsp := rfl
@[simp] theorem State.drawn_par (s : State) : s.drawn.par = s.par := rfl
@[simp] theorem State.drawn_sched (s : State) : s.drawn.sched = s.sched := rfl
@[simp] theorem State.drawn_stretches (s : State) : s.drawn.stretches = s.stretches := rfl
@[simp] theorem State.drawn_host (s : State) : s.drawn.host = s.host := rfl
@[simp] theorem State.drawn_draws (s : State) : s.drawn.draws = s.draws + 1 := rfl
@[simp] theorem State.drawn_hold (s : State) : s.drawn.hold = s.hold := rfl

@[simp] theorem State.openTo_conn (s : State) (e : Nat) : (s.openTo e).conn = .opened := rfl
@[simp] theorem State.openTo_ep (s : State) (e : Nat) : (s.openTo e).ep = some e := rfl
@[simp] theorem State.openTo_mode (s : State) (e : Nat) : (s.openTo e).mode = .unconfigured := rfl
@[simp] theorem State.openTo_rxq (s : State) (e : Nat) : (s.openTo e).rxq = [] := rfl
@[simp] theorem State.openTo_fault (s : State) (e : Nat) : (s.openTo e).fault = s.fault := rfl
@[simp] theorem State.openTo_txlog (s : State) (e : Nat) : (s.openTo e).txlog = s.txlog := rfl
@[simp] theorem State.openTo_port (s : State) (e : Nat) : (s.openTo e).port = s.port := rfl
@[simp] theorem State.openTo_abandoned (s : State) (e : Nat) : (s.openTo e).abandoned = s.abandoned := rfl
@[simp] theorem State.openTo_rsp (s : State) (e : Nat) : (s.openTo e).rsp = s.rsp := rfl
@[simp] theorem State.openTo_par (s : State) (e : Nat) : (s.openTo e).par = s.par := rfl
@[simp] theorem State.openTo_sched (s : State) (e : Nat) : (s.openTo e).sched = s.sched := rfl
@[simp] theorem State.openTo_stretches (s : State) (e : Nat) : (s.openTo e).stretches = s.stretches := rfl
@[simp] theorem State.openTo_host (s : State) (e : Nat) : (s.openTo e).host = s.host := rfl
@[simp] theorem State.openTo_draws (s : State) (e : Nat) : (s.openTo e).draws = s.draws := rfl
@[simp] theorem State.openTo_hold (s : State) (e : Nat) : (s.openTo e).hold = s.hold := rfl

@[simp] theorem State.release_conn (s : State) : s.release.conn = .closed := rfl
@[simp] theorem State.release_ep (s : State) : s.release.ep = none := rfl
@[simp] theorem State.release_mode (s : State) : s.release.mode = .unconfigured := rfl
@[simp] theorem State.release_rxq (s : State) : s.release.rxq = [] := rfl
@[simp] theorem State.release_fault (s : State) : s.release.fault = s.fault := rfl
@[simp] theorem State.release_txlog (s : State) : s.release.txlog = s.txlog := rfl
@[simp] theorem State.release_port (s : State) : s.release.port = s.port := rfl
@[simp] theorem State.release_abandoned (s : State) : s.release.abandoned = s.abandoned := rfl
@[simp] theorem State.release_rsp (s : State) : s.release.rsp = s.rsp := rfl
@[simp] theorem State.release_par (s : State) : s.release.par = s.par := rfl
@[simp] theorem State.release_sched (s : State) : s.release.sched = s.sched := rfl
@[simp] theorem State.release_stretches (s : State) : s.release.stretches = s.stretches := rfl
@[simp] theorem State.release_host (s : State) : s.release.host = s.host := rfl
@[simp] theorem State.release_draws (s : State) : s.release.draws = s.draws := rfl
@[simp] theorem State.release_hold (s : State) : s.release.hold = s.hold := rfl

@[simp] theorem State.setMode_conn (s : State) (m : Mode) : (s.setMode m).conn = s.conn := rfl
@[simp] theorem State.setMode_ep (s : State) (m : Mode) : (s.setMode m).ep = s.ep := rfl
@[simp] theorem State.setMode_mode (s : State) (m : Mode) : (s.setMode m).mode = m := rfl
@[simp] theorem State.setMode_rxq (s : State) (m : Mode) : (s.setMode m).rxq = s.rxq := rfl
@[simp] theorem State.setMode_fault (s : State) (m : Mode) : (s.setMode m).fault = s.fault := rfl
@[simp] theorem State.setMode_txlog (s : State) (m : Mode) : (s.setMode m).txlog = s.txlog := rfl
@[simp] theorem State.setMode_port (s : State) (m : Mode) : (s.setMode m).port = s.port := rfl
@[simp] theorem State.setMode_abandoned (s : State) (m : Mode) : (s.setMode m).abandoned = s.abandoned := rfl
@[simp] theorem State.setMode_rsp (s : State) (m : Mode) : (s.setMode m).rsp = s.rsp := rfl
@[simp] theorem State.setMode_par (s : State) (m : Mode) : (s.setMode m).par = s.par := rfl
@[simp] theorem State.setMode_sched (s : State) (m : Mode) : (s.setMode m).sched = s.sched := rfl
@[simp] theorem State.setMode_stretches (s : State) (m : Mode) : (s.setMode m).stretches = s.stretches := rfl
@[simp] theorem State.setMode_host (s : State) (m : Mode) : (s.setMode m).host = s.host := rfl
@[simp] theorem State.setMode_draws (s : State) (m : Mode) : (s.setMode m).draws = s.draws := rfl
@[simp] theorem State.setMode_hold (s : State) (m : Mode) : (s.setMode m).hold = s.hold := rfl

@[simp] theorem State.flushRx_conn (s : State) : s.flushRx.conn = s.conn := rfl
@[simp] theorem State.flushRx_ep (s : State) : s.flushRx.ep = s.ep := rfl
@[simp] theorem State.flushRx_mode (s : State) : s.flushRx.mode = s.mode := rfl
@[simp] theorem State.flushRx_rxq (s : State) : s.flushRx.rxq = [] := rfl
@[simp] theorem State.flushRx_fault (s : State) : s.flushRx.fault = s.fault := rfl
@[simp] theorem State.flushRx_txlog (s : State) : s.flushRx.txlog = s.txlog := rfl
@[simp] theorem State.flushRx_port (s : State) : s.flushRx.port = s.port := rfl
@[simp] theorem State.flushRx_abandoned (s : State) : s.flushRx.abandoned = s.abandoned := rfl
@[simp] theorem State.flushRx_rsp (s : State) : s.flushRx.rsp = s.rsp := rfl
@[simp] theorem State.flushRx_par (s : State) : s.flushRx.par = s.par := rfl
@[simp] theorem State.flushRx_sched (s : State) : s.flushRx.sched = s.sched := rfl
@[simp] theorem State.flushRx_stretches (s : State) : s.flushRx.stretches = s.stretches := rfl
@[simp] theorem State.flushRx_host (s : State) : s.flushRx.host = s.host := rfl
@[simp] theorem State.flushRx_draws (s : State) : s.flushRx.draws = s.draws := rfl
@[simp] theorem State.flushRx_hold (s : State) : s.flushRx.hold = s.hold := rfl

@[simp] theorem State.rxPop_conn (s : State) : s.rxPop.conn = s.conn := rfl
@[simp] theorem State.rxPop_ep (s : State) : s.rxPop.ep = s.ep := rfl
@[simp] theorem State.rxPop_mode (s : State) : s.rxPop.mode = s.mode := rfl
@[simp] theorem State.rxPop_rxq (s : State) : s.rxPop.rxq = s.rxq.drop 1 := rfl
@[simp] theorem State.rxPop_fault (s : State) : s.rxPop.fault = s.fault := rfl
@[simp] theorem State.rxPop_txlog (s : State) : s.rxPop.txlog = s.txlog := rfl
@[simp] theorem State.rxPop_port (s : State) : s.rxPop.port = s.port := rfl
@[simp] theorem State.rxPop_abandoned (s : State) : s.rxPop.abandoned = s.abandoned := rfl
@[simp] theorem State.rxPop_rsp (s : State) : s.rxPop.rsp = s.rsp := rfl
@[simp] theorem State.rxPop_par (s : State) : s.rxPop.par = s.par := rfl
@[simp] theorem State.rxPop_sched (s : State) : s.rxPop.sched = s.sched := rfl
@[simp] theorem State.rxPop_stretches (s : State) : s.rxPop.stretches = s.stretches := rfl
@[simp] theorem State.rxPop_host (s : State) : s.rxPop.host = s.host := rfl
@[simp] theorem State.rxPop_draws (s : State) : s.rxPop.draws = s.draws := rfl
@[simp] theorem State.rxPop_hold (s : State) : s.rxPop.hold = s.hold := rfl

@[simp] theorem State.txAppend_conn (s : State) (b : Bytes) : (s.txAppend b).conn = s.conn := rfl
@[simp] theorem State.txAppend_ep (s : State) (b : Bytes) : (s.txAppend b).ep = s.ep := rfl
@[simp] theorem State.txAppend_mode (s : State) (b : Bytes) : (s.txAppend b).mode = s.mode := rfl
@[simp] theorem State.txAppend_rxq (s : State) (b : Bytes) : (s.txAppend b).rxq = s.rxq := rfl
@[simp] theorem State.txAppend_fault (s : State) (b : Bytes) : (s.txAppend b).fault = s.fault := rfl
@[simp] theorem State.txAppend_txlog (s : State) (b : Bytes) : (s.txAppend b).txlog = s.txlog ++ b := rfl
@[simp] theorem State.txAppend_port (s : State) (b : Bytes) : (s.txAppend b).port = s.port := rfl
@[simp] theorem State.txAppend_abandoned (s : State) (b : Bytes) : (s.txAppend b).abandoned = s.abandoned := rfl
@[simp] theorem State.txAppend_rsp (s : State) (b : Bytes) : (s.txAppend b).rsp = s.rsp := rfl
@[simp] theorem State.txAppend_par (s : State) (b : Bytes) : (s.txAppend b).par = s.par := rfl
@[simp] theorem State.txAppend_sched (s : State) (b : Bytes) : (s.txAppend b).sched = s.sched := rfl
@[simp] theorem State.txAppend_stretches (s : State) (b : Bytes) : (s.txAppend b).stretches = s.stretches := rfl
@[simp] theorem State.txAppend_host (s : State) (b : Bytes) : (s.txAppend b).host = s.host := rfl
@[simp] theorem State.txAppend_draws (s : State) (b : Bytes) : (s.txAppend b).draws = s.draws := rfl
@[simp] theorem State.txAppend_hold (s : State) (b : Bytes) : (s.txAppend b).hold = s.hold := rfl

@[simp] theorem State.enqueue_conn (s : State) (v : Byte) : (s.enqueue v).conn = s.conn := rfl
@[simp] theorem State.enqueue_ep (s : State) (v : Byte) : (s.enqueue v).ep = s.ep := rfl
@[simp] theorem State.enqueue_mode (s : State) (v : Byte) : (s.enqueue v).mode = s.mode := rfl
@[simp] theorem State.enqueue_rxq (s : State) (v : Byte) : (s.enqueue v).rxq = s.rxq ++ [v] := rfl
@[simp] theorem State.enqueue_fault (s : State) (v : Byte) : (s.enqueue v).fault = s.fault := rfl
@[simp] theorem State.enqueue_txlog (s : State) (v : Byte) : (s.enqueue v).txlog = s.txlog := rfl
@[simp] theorem State.enqueue_port (s : State) (v : Byte) : (s.enqueue v).port = s.port := rfl
@[simp] theorem State.enqueue_abandoned (s : State) (v : Byte) : (s.enqueue v).abandoned = s.abandoned := rfl
@[simp] theorem State.enqueue_rsp (s : State) (v : Byte) : (s.enqueue v).rsp = s.rsp := rfl
@[simp] theorem State.enqueue_par (s : State) (v : Byte) : (s.enqueue v).par = s.par := rfl
@[simp] theorem State.enqueue_sched (s : State) (v : Byte) : (s.enqueue v).sched = s.sched := rfl
@[simp] theorem State.enqueue_stretches (s : State) (v : Byte) : (s.enqueue v).stretches = s.stretches := rfl
@[simp] theorem State.enqueue_host (s : State) (v : Byte) : (s.enqueue v).host = s.host := rfl
@[simp] theorem State.enqueue_draws (s : State) (v : Byte) : (s.enqueue v).draws = s.draws := rfl
@[simp] theorem State.enqueue_hold (s : State) (v : Byte) : (s.enqueue v).hold = s.hold := rfl

@[simp] theorem State.holdOn_conn (s : State) (h : Hold) : (s.holdOn h).conn = s.conn := rfl
@[simp] theorem State.holdOn_ep (s : State) (h : Hold) : (s.holdOn h).ep = s.ep := rfl
@[simp] theorem State.holdOn_mode (s : State) (h : Hold) : (s.holdOn h).mode = s.mode := rfl
@[simp] theorem State.holdOn_rxq (s : State) (h : Hold) : (s.holdOn h).rxq = s.rxq := rfl
@[simp] theorem State.holdOn_fault (s : State) (h : Hold) : (s.holdOn h).fault = s.fault := rfl
@[simp] theorem State.holdOn_txlog (s : State) (h : Hold) : (s.holdOn h).txlog = s.txlog := rfl
@[simp] theorem State.holdOn_port (s : State) (h : Hold) : (s.holdOn h).port = s.port := rfl
@[simp] theorem State.holdOn_abandoned (s : State) (h : Hold) : (s.holdOn h).abandoned = s.abandoned := rfl
@[simp] theorem State.holdOn_rsp (s : State) (h : Hold) : (s.holdOn h).rsp = s.rsp := rfl
@[simp] theorem State.holdOn_par (s : State) (h : Hold) : (s.holdOn h).par = s.par := rfl
@[simp] theorem State.holdOn_sched (s : State) (h : Hold) : (s.holdOn h).sched = s.sched := rfl
@[simp] theorem State.holdOn_stretches (s : State) (h : Hold) : (s.holdOn h).stretches = s.stretches := rfl
@[simp] theorem State.holdOn_host (s : State) (h : Hold) : (s.holdOn h).host = s.host := rfl
@[simp] theorem State.holdOn_draws (s : State) (h : Hold) : (s.holdOn h).draws = s.draws := rfl
@[simp] theorem State.holdOn_hold (s : State) (h : Hold) : (s.holdOn h).hold = some h := rfl

@[simp] theorem State.resetBlock_conn (s : State) : s.resetBlock.conn = .closed := rfl
@[simp] theorem State.resetBlock_ep (s : State) : s.resetBlock.ep = none := rfl
@[simp] theorem State.resetBlock_mode (s : State) : s.resetBlock.mode = .unconfigured := rfl
@[simp] theorem State.resetBlock_rxq (s : State) : s.resetBlock.rxq = [] := rfl
@[simp] theorem State.resetBlock_fault (s : State) : s.resetBlock.fault = 0x00 := rfl
@[simp] theorem State.resetBlock_txlog (s : State) : s.resetBlock.txlog = [] := rfl
@[simp] theorem State.resetBlock_port (s : State) : s.resetBlock.port = none := rfl
@[simp] theorem State.resetBlock_abandoned (s : State) : s.resetBlock.abandoned = (s.abandoned || s.port.isSome) := rfl
@[simp] theorem State.resetBlock_rsp (s : State) : s.resetBlock.rsp = s.rsp := rfl
@[simp] theorem State.resetBlock_par (s : State) : s.resetBlock.par = s.par := rfl
@[simp] theorem State.resetBlock_sched (s : State) : s.resetBlock.sched = s.sched := rfl
@[simp] theorem State.resetBlock_stretches (s : State) : s.resetBlock.stretches = s.stretches := rfl
@[simp] theorem State.resetBlock_host (s : State) : s.resetBlock.host = s.host := rfl
@[simp] theorem State.resetBlock_draws (s : State) : s.resetBlock.draws = s.draws := rfl
@[simp] theorem State.resetBlock_hold (s : State) : s.resetBlock.hold = none := rfl

@[simp] theorem State.issue_conn (s : State) (c : Cmd) (h : HostState) : (s.issue c h).conn = s.conn := rfl
@[simp] theorem State.issue_ep (s : State) (c : Cmd) (h : HostState) : (s.issue c h).ep = s.ep := rfl
@[simp] theorem State.issue_mode (s : State) (c : Cmd) (h : HostState) : (s.issue c h).mode = s.mode := rfl
@[simp] theorem State.issue_rxq (s : State) (c : Cmd) (h : HostState) : (s.issue c h).rxq = s.rxq := rfl
@[simp] theorem State.issue_fault (s : State) (c : Cmd) (h : HostState) : (s.issue c h).fault = s.fault := rfl
@[simp] theorem State.issue_txlog (s : State) (c : Cmd) (h : HostState) : (s.issue c h).txlog = s.txlog := rfl
@[simp] theorem State.issue_port (s : State) (c : Cmd) (h : HostState) : (s.issue c h).port = some c := rfl
@[simp] theorem State.issue_abandoned (s : State) (c : Cmd) (h : HostState) : (s.issue c h).abandoned = s.abandoned := rfl
@[simp] theorem State.issue_rsp (s : State) (c : Cmd) (h : HostState) : (s.issue c h).rsp = s.rsp := rfl
@[simp] theorem State.issue_par (s : State) (c : Cmd) (h : HostState) : (s.issue c h).par = s.par := rfl
@[simp] theorem State.issue_sched (s : State) (c : Cmd) (h : HostState) : (s.issue c h).sched = s.sched := rfl
@[simp] theorem State.issue_stretches (s : State) (c : Cmd) (h : HostState) : (s.issue c h).stretches = s.stretches := rfl
@[simp] theorem State.issue_host (s : State) (c : Cmd) (h : HostState) : (s.issue c h).host = h := rfl
@[simp] theorem State.issue_draws (s : State) (c : Cmd) (h : HostState) : (s.issue c h).draws = s.draws := rfl
@[simp] theorem State.issue_hold (s : State) (c : Cmd) (h : HostState) : (s.issue c h).hold = s.hold := rfl

@[simp] theorem State.hostMoved_conn (s : State) (h : HostState) : (s.hostMoved h).conn = s.conn := rfl
@[simp] theorem State.hostMoved_ep (s : State) (h : HostState) : (s.hostMoved h).ep = s.ep := rfl
@[simp] theorem State.hostMoved_mode (s : State) (h : HostState) : (s.hostMoved h).mode = s.mode := rfl
@[simp] theorem State.hostMoved_rxq (s : State) (h : HostState) : (s.hostMoved h).rxq = s.rxq := rfl
@[simp] theorem State.hostMoved_fault (s : State) (h : HostState) : (s.hostMoved h).fault = s.fault := rfl
@[simp] theorem State.hostMoved_txlog (s : State) (h : HostState) : (s.hostMoved h).txlog = s.txlog := rfl
@[simp] theorem State.hostMoved_port (s : State) (h : HostState) : (s.hostMoved h).port = s.port := rfl
@[simp] theorem State.hostMoved_abandoned (s : State) (h : HostState) : (s.hostMoved h).abandoned = s.abandoned := rfl
@[simp] theorem State.hostMoved_rsp (s : State) (h : HostState) : (s.hostMoved h).rsp = s.rsp := rfl
@[simp] theorem State.hostMoved_par (s : State) (h : HostState) : (s.hostMoved h).par = s.par := rfl
@[simp] theorem State.hostMoved_sched (s : State) (h : HostState) : (s.hostMoved h).sched = s.sched := rfl
@[simp] theorem State.hostMoved_stretches (s : State) (h : HostState) : (s.hostMoved h).stretches = s.stretches := rfl
@[simp] theorem State.hostMoved_host (s : State) (h : HostState) : (s.hostMoved h).host = h := rfl
@[simp] theorem State.hostMoved_draws (s : State) (h : HostState) : (s.hostMoved h).draws = s.draws := rfl
@[simp] theorem State.hostMoved_hold (s : State) (h : HostState) : (s.hostMoved h).hold = s.hold := rfl

@[simp] theorem State.turnTaken_conn (s : State) : s.turnTaken.conn = s.conn := rfl
@[simp] theorem State.turnTaken_ep (s : State) : s.turnTaken.ep = s.ep := rfl
@[simp] theorem State.turnTaken_mode (s : State) : s.turnTaken.mode = s.mode := rfl
@[simp] theorem State.turnTaken_rxq (s : State) : s.turnTaken.rxq = s.rxq := rfl
@[simp] theorem State.turnTaken_fault (s : State) : s.turnTaken.fault = s.fault := rfl
@[simp] theorem State.turnTaken_txlog (s : State) : s.turnTaken.txlog = s.txlog := rfl
@[simp] theorem State.turnTaken_port (s : State) : s.turnTaken.port = s.port := rfl
@[simp] theorem State.turnTaken_abandoned (s : State) : s.turnTaken.abandoned = s.abandoned := rfl
@[simp] theorem State.turnTaken_rsp (s : State) : s.turnTaken.rsp = s.rsp := rfl
@[simp] theorem State.turnTaken_par (s : State) : s.turnTaken.par = s.par := rfl
@[simp] theorem State.turnTaken_host (s : State) : s.turnTaken.host = s.host := rfl
@[simp] theorem State.turnTaken_draws (s : State) : s.turnTaken.draws = s.draws := rfl
@[simp] theorem State.turnTaken_hold (s : State) : s.turnTaken.hold = s.hold := rfl
@[simp] theorem State.turnTaken_sched (s : State) : s.turnTaken.sched = s.plan.tail := rfl
@[simp] theorem State.turnTaken_stretches (s : State) : s.turnTaken.stretches = s.stretchesAfter := rfl

/-- With a turn scheduled, that turn is next. -/
theorem State.nextTurn_of_cons {s : State} {u : Turn} {r : List Turn} (h : s.sched = u :: r) :
    s.nextTurn = u := by simp [State.nextTurn, State.plan, h]

/-- With a turn scheduled, the schedule goes on to the turns after it. -/
theorem State.turnTaken_of_cons {s : State} {u : Turn} {r : List Turn} (h : s.sched = u :: r) :
    s.turnTaken = { s with sched := r } := by
  simp [State.turnTaken, State.plan, State.stretchesAfter, h]

/-- With nothing scheduled, the turns are those of the stretch drawn and then the block's. -/
theorem State.plan_of_nil {s : State} (h : s.sched = []) :
    s.plan = Config.turns s.stretches ++ [.block] := by simp [State.plan, h]

/-- There is always a turn to come. -/
theorem State.plan_ne_nil (s : State) : s.plan ≠ [] := by
  unfold State.plan
  split <;> simp

/-- The turns to come are the next turn and those that stand after it. -/
theorem State.plan_eq_cons (s : State) : s.plan = s.nextTurn :: s.turnTaken.sched := by
  unfold State.nextTurn
  cases h : s.plan with
  | nil => exact absurd h s.plan_ne_nil
  | cons u r => simp [h]

end Sys2Proof.Machine
end

