-- ==== Sys2Proof/Laws/Ops.lean ====
section
/-! SUPPORT. What the shared operations can do, once each: the halt check, the common checks, the
arrival, and the serial mux's own rules. -/

namespace Sys2Proof.Machine

/-! ### The halt check -/

theorem reservedFault_eq_true (s : State) : s.reservedFault = true ↔ 7 < s.fault.toNat := by
  simp [State.reservedFault]

theorem halted_eq_true (s : State) : s.halted = true ↔ s.fault ≠ 0x00 := by
  simp [State.halted]

/-- A running block takes the step. -/
theorem whenRunning_of_running {s : State} (h : s.running) (t : State) :
    whenRunning s t = .next t := by
  have h0 : s.fault = 0x00 := h
  simp [whenRunning, State.reservedFault, State.halted, h0]

/-- A halted block takes no step. -/
theorem whenRunning_of_halted {s : State} (h : s.haltedByFault) (t : State) :
    whenRunning s t = .next s := by
  obtain ⟨h1, h7⟩ := h
  have hne : s.fault ≠ 0x00 := by
    intro h0
    rw [h0] at h1
    exact absurd h1 (by decide)
  have hr : s.reservedFault = false := by simp [State.reservedFault, h7]
  simp only [whenRunning, hr, (halted_eq_true s).2 hne, if_true, Bool.false_eq_true, if_false]

/-- A reserved code in FAULT is refused. -/
theorem whenRunning_of_reserved {s : State} (h : 7 < s.fault.toNat) (t : State) :
    whenRunning s t = .refused .reservedFaultCode := by
  simp [whenRunning, State.reservedFault, h]

/-- All the halt check can answer with a next state. -/
theorem whenRunning_next {s t u : State} (h : whenRunning s t = .next u) :
    (s.running ∧ u = t) ∨ (s.haltedByFault ∧ u = s) := by
  by_cases h0 : s.fault = 0x00
  · rw [whenRunning_of_running h0] at h
    exact .inl ⟨h0, by cases h; rfl⟩
  · by_cases h7 : 7 < s.fault.toNat
    · rw [whenRunning_of_reserved h7] at h
      cases h
    · have h1 : 1 ≤ s.fault.toNat := by
        rcases Nat.eq_zero_or_pos s.fault.toNat with hz | hp
        · exact absurd (BitVec.eq_of_toNat_eq (by simpa using hz)) h0
        · exact hp
      have hh : s.haltedByFault := ⟨h1, by omega⟩
      rw [whenRunning_of_halted hh] at h
      exact .inr ⟨hh, by cases h; rfl⟩

/-- The halt check never ends in a fault of the machine. -/
theorem whenRunning_ne_fault (s t : State) (r : Fault) : whenRunning s t ≠ .fault r :=
  nomatch r

/-! ### The common checks -/

theorem argTooLong_eq_true (s : State) (arg : Bytes) :
    argTooLong s arg = true ↔ s.par.argMax < arg.length := by
  simp [argTooLong]

theorem argTooLong_of_carries {s : State} {arg : Bytes} (h : s.carries arg) :
    argTooLong s arg = false := by
  simpa [argTooLong] using h

/-- A running block that carries ARG does what the operation's own rule says. -/
theorem command_of_running {s : State} {arg : Bytes} (h : s.running) (hc : s.carries arg)
    (t : State) : command s arg t = .next t := by
  simp [command, argTooLong_of_carries hc, whenRunning_of_running h]

/-- A running block faults on an ARG that is too long. -/
theorem command_of_tooLong {s : State} {arg : Bytes} (h : s.running)
    (hc : s.par.argMax < arg.length) (t : State) :
    command s arg t = .next (s.raise .argTooLong) := by
  simp [command, (argTooLong_eq_true s arg).2 hc, whenRunning_of_running h]

/-- A halted block takes no command. -/
theorem command_of_halted {s : State} (h : s.haltedByFault) (arg : Bytes) (t : State) :
    command s arg t = .next s := whenRunning_of_halted h _

/-- All a command can answer with a next state. -/
theorem command_next {s t u : State} {arg : Bytes} (h : command s arg t = .next u) :
    (s.running ∧ s.carries arg ∧ u = t) ∨
    (s.running ∧ s.par.argMax < arg.length ∧ u = s.raise .argTooLong) ∨
    (s.haltedByFault ∧ u = s) := by
  rcases whenRunning_next h with ⟨hr, hu⟩ | hh
  · by_cases hc : s.par.argMax < arg.length
    · rw [if_pos ((argTooLong_eq_true s arg).2 hc)] at hu
      exact .inr (.inl ⟨hr, hc, hu⟩)
    · have hc' : s.carries arg := Nat.le_of_not_lt hc
      rw [argTooLong_of_carries hc'] at hu
      exact .inl ⟨hr, hc', by simpa using hu⟩
  · exact .inr (.inr hh)

/-- All an illegal command can answer with a next state. -/
theorem illegalCommand_next {s u : State} (h : illegalCommand s = .next u) :
    (s.running ∧ u = s.raise .illegalOp) ∨ (s.haltedByFault ∧ u = s) := whenRunning_next h

/-! ### The arrival -/

/-- A byte received by an open connection is enqueued or overflows the queue. -/
theorem receive_cases (s : State) (v : Byte) :
    (rxFull s = true ∧ s.receive v = s.raiseInArrival .rxOverflow) ∨
    (rxFull s = false ∧ s.receive v = s.enqueue v) := by
  cases h : rxFull s <;> simp [State.receive, h]

/-- All an arrival in a running block can do. -/
theorem arrival_cases (s : State) (v : Byte) :
    (s.conn = .closed ∧ s.arrival v = s) ∨
    (s.conn = .opened ∧ s.mode = .unconfigured ∧
      s.arrival v = s.drawn.receive (Config.drawByte s.draws)) ∨
    (s.conn = .opened ∧ s.mode ≠ .unconfigured ∧ s.arrival v = s.receive v) := by
  cases hc : s.conn <;> cases hm : s.mode <;> simp [State.arrival, hc, hm]

/-- All the device's step can answer with a next state. -/
theorem arrive_next {s u : State} {v : Byte} (h : arrive s v = .next u) :
    (s.running ∧ u = s.arrival v) ∨ (s.haltedByFault ∧ u = s) := whenRunning_next h

/-! ### The serial mux's own rules -/

/-- All OPEN's own rule can do. -/
theorem openRule_cases (s : State) (e : Nat) :
    (s.conn = .opened ∧ openRule s e = s.raise .alreadyOpen) ∨
    (s.conn = .closed ∧ s.par.endpoints.has e = false ∧ openRule s e = s.respond deviceErrorRsp) ∨
    (s.conn = .closed ∧ s.par.endpoints.has e = true ∧ deviceFails s = true ∧
      openRule s e = s.drawn.respond deviceErrorRsp) ∨
    (s.conn = .closed ∧ s.par.endpoints.has e = true ∧ deviceFails s = false ∧
      openRule s e = (s.drawn.openTo e).respond okRsp) := by
  cases hc : s.conn
  · cases he : s.par.endpoints.has e
    · simp [openRule, knownEndpoint, hc, he]
    · cases hd : deviceFails s <;> simp [openRule, knownEndpoint, hc, he, hd]
  · simp [openRule, hc]

/-- All CFG's own rule can do. -/
theorem cfgRule_cases (s : State) (m : Bool) :
    (s.conn = .closed ∧ cfgRule s m = s.raise .notOpen) ∨
    (s.conn = .opened ∧ deviceFails s = true ∧
      cfgRule s m = (s.drawn.setMode .unconfigured).respond deviceErrorRsp) ∨
    (s.conn = .opened ∧ deviceFails s = false ∧
      cfgRule s m = (s.drawn.setMode (selectedMode m)).respond okRsp) := by
  cases hc : s.conn
  · simp [cfgRule, hc]
  · cases hd : deviceFails s <;> simp [cfgRule, hc, hd]

/-- All WRITE's own rule can do. -/
theorem writeRule_cases (s : State) (arg : Bytes) :
    (s.conn = .closed ∧ writeRule s arg = s.raise .notOpen) ∨
    (s.conn = .opened ∧ s.mode = .unconfigured ∧ writeRule s arg = s.raise .unconfigured) ∨
    (s.conn = .opened ∧ s.mode ≠ .unconfigured ∧ transferFails s = true ∧
      writeRule s arg = (s.drawn.txAppend (sentPrefix s arg)).respond ioErrorRsp) ∨
    (s.conn = .opened ∧ s.mode ≠ .unconfigured ∧ transferFails s = false ∧
      writeRule s arg = (s.drawn.txAppend arg).respond okRsp) := by
  cases hc : s.conn
  · simp [writeRule, hc]
  · by_cases hm : s.mode = .unconfigured
    · simp [writeRule, hc, hm]
    · cases hd : transferFails s <;> simp [writeRule, hc, hm, hd]

/-- All a READ's enabled step that finds RXQ empty can do. -/
theorem readEmpty_cases (s : State) :
    (s.mode = .handshake ∧ timerLeft s = 0 ∧ readEmpty s = s.drawn.respond okRsp) ∨
    (∃ k, s.mode = .handshake ∧ timerLeft s = k + 1 ∧
      readEmpty s = s.drawn.holdOn (.untilByteOrTimer k)) ∨
    (s.mode ≠ .handshake ∧ readEmpty s = s.drawn.holdOn .untilByte) := by
  by_cases hm : s.mode = .handshake
  · cases ht : timerLeft s <;> simp [readEmpty, hm, ht]
  · simp [readEmpty, hm]

/-- When a READ goes on holding, and how: RXQ is empty, and it holds in Streaming mode, or in Handshake
mode with turns left. -/
theorem stillHeld_cases (s : State) :
    (s.rxq = [] ∧ s.mode = .streaming ∧ s.hold ≠ none ∧ stillHeld s = some s) ∨
    (∃ k, s.rxq = [] ∧ s.mode = .handshake ∧ s.hold = some (.untilByteOrTimer (k + 1)) ∧
      stillHeld s = some (s.holdOn (.untilByteOrTimer k))) ∨
    ((s.rxq = [] → s.mode = .streaming → s.hold = none) ∧
      (∀ k, s.rxq = [] → s.mode = .handshake → s.hold ≠ some (.untilByteOrTimer (k + 1))) ∧
      stillHeld s = none) := by
  unfold stillHeld
  split
  · rename_i h hq hm hh; exact .inl ⟨hq, hm, by simp [hh], rfl⟩
  · rename_i k hq hm hh; exact .inr (.inl ⟨k, hq, hm, hh, rfl⟩)
  · rename_i h1 h2
    refine .inr (.inr ⟨fun hq hm => ?_, fun k hq hm hh => h2 k hq hm hh, rfl⟩)
    cases hh : s.hold with
    | none => rfl
    | some x => exact absurd hh (h1 x hq hm)

/-- All READ's own rule can do: fault, go on holding (in either mode), fail, take a byte, or find RXQ empty. -/
theorem readRule_cases (s : State) :
    (s.conn = .closed ∧ readRule s = s.raise .notOpen) ∨
    (s.conn = .opened ∧ s.mode = .unconfigured ∧ readRule s = s.raise .unconfigured) ∨
    (s.conn = .opened ∧ s.rxq = [] ∧ s.mode = .streaming ∧ s.hold ≠ none ∧ readRule s = s) ∨
    (∃ k, s.conn = .opened ∧ s.rxq = [] ∧ s.mode = .handshake ∧
      s.hold = some (.untilByteOrTimer (k + 1)) ∧
      readRule s = s.holdOn (.untilByteOrTimer k)) ∨
    (s.conn = .opened ∧ s.mode ≠ .unconfigured ∧ stillHeld s = none ∧ transferFails s = true ∧
      readRule s = (if readDrops s then s.drawn.rxPop else s.drawn).respond ioErrorRsp) ∨
    (∃ v q, s.conn = .opened ∧ s.mode ≠ .unconfigured ∧ stillHeld s = none ∧
      transferFails s = false ∧
      s.rxq = v :: q ∧ readRule s = s.drawn.rxPop.respond (okRsp (opt := some v))) ∨
    (s.conn = .opened ∧ s.mode ≠ .unconfigured ∧ stillHeld s = none ∧ transferFails s = false ∧
      s.rxq = [] ∧ readRule s = readEmpty s) := by
  cases hc : s.conn
  · simp [readRule, hc]
  · by_cases hm : s.mode = .unconfigured
    · simp [readRule, hc, hm]
    · rcases stillHeld_cases s with ⟨hq, hs, hh, h⟩ | ⟨k, hq, hs, hh, h⟩ | ⟨-, -, h⟩
      · simp [readRule, hc, hs, hh, hq, h]
      · simp [readRule, hc, hs, hh, hq, h]
      · cases hd : transferFails s
        · cases hq : s.rxq <;> simp [readRule, readStep, hc, hm, h, hd, hq]
        · simp [readRule, readStep, hc, hm, h, hd]

/-- All FLUSH's own rule can do. -/
theorem flushRule_cases (s : State) :
    (s.conn = .closed ∧ flushRule s = s.raise .notOpen) ∨
    (s.conn = .opened ∧ flushRule s = s.flushRx.respond okRsp) := by
  cases hc : s.conn <;> simp [flushRule, hc]

/-- All BUILD.DATA's own rule can do. -/
theorem buildDataRule_cases (s : State) (b : Bytes) :
    (b.length ≠ 16 ∧ buildDataRule s b = s.raise .badLength) ∨
    (b.length = 16 ∧ buildDataRule s b = s.respond (okRsp (data := builtDataFrame b))) := by
  by_cases h : b.length = 16 <;> simp [buildDataRule, Config.blockSize, h]

/-- Nothing an instruction does ends in a fault of the machine. -/
theorem exec_ne_fault (i : Instr) (s : State) (r : Fault) : exec i s ≠ .fault r :=
  nomatch r

end Sys2Proof.Machine
end

