-- ==== Sys2Proof/Laws/Exec.lean ====
section
/-! SUPPORT. Every instruction is the common checks before a rule of its own: said once, so that a proof
about all instructions needs one case split over the rules. -/

namespace Sys2Proof.Machine

/-- The byte string an instruction brings to the carrier check. -/
def carriedArg : Instr → Bytes
  | .frameProbe => [Config.probeByte]
  | .frameErase => [Config.eraseA, Config.eraseB]
  | .frameData p c => dataFrame p c
  | .frameTerm => [Config.termByte]
  | .respAck => []
  | .respNack => []
  | .respTimeout => []
  | .crc8 o => o.arg
  | .openConn o => o.arg
  | .closeConn o => o.arg
  | .cfg _ o => o.arg
  | .write o => o.arg
  | .read o => o.arg
  | .flush o => o.arg
  | .buildProbe o => o.arg
  | .buildErase o => o.arg
  | .buildData o => o.arg
  | .buildTerm o => o.arg
  | .parse o => o.arg
  | .classify o => o.arg

/-- The state an instruction's own rule leads to. -/
def ruleState (i : Instr) (s : State) : State :=
  match i with
  | .crc8 o => s.respond (okRsp (data := [crc8 o.arg]))
  | .openConn o => openRule s o.ep
  | .closeConn _ => s.release.respond okRsp
  | .cfg m _ => cfgRule s m
  | .write o => writeRule s o.arg
  | .read _ => readRule s
  | .flush _ => flushRule s
  | .buildProbe _ => s.respond (okRsp (data := [Config.probeByte]))
  | .buildErase _ => s.respond (okRsp (data := [Config.eraseA, Config.eraseB]))
  | .buildData o => buildDataRule s o.arg
  | .buildTerm _ => s.respond (okRsp (data := [Config.termByte]))
  | .parse o => s.respond (parseRsp o.arg)
  | .classify o => s.respond (classifyRsp o.opt)
  | .frameProbe => s.respond (parseRsp [Config.probeByte])
  | .frameErase => s.respond (parseRsp [Config.eraseA, Config.eraseB])
  | .frameData p c => s.respond (parseRsp (dataFrame p c))
  | .frameTerm => s.respond (parseRsp [Config.termByte])
  | .respAck => s.respond (classifyRsp (some Config.ackByte))
  | .respNack => s.respond (classifyRsp (some Config.nackByte))
  | .respTimeout => s.respond (classifyRsp (some Config.timeoutByte))

/-- An instruction is the common checks and then its own rule (60_exceptions.md R220). -/
theorem exec_eq_command (i : Instr) (s : State) :
    exec i s = command s (carriedArg i) (ruleState i s) := by
  cases i <;> rfl

/-- In a running block that carries its ARG an instruction does its own rule. -/
theorem exec_of_running (i : Instr) (s : State) (h : s.running) (hc : s.carries (carriedArg i)) :
    exec i s = .next (ruleState i s) := by
  rw [exec_eq_command, command_of_running h hc]

/-- In a running block an instruction whose ARG is too long faults. -/
theorem exec_of_tooLong (i : Instr) (s : State) (h : s.running)
    (hc : s.par.argMax < (carriedArg i).length) : exec i s = .next (s.raise .argTooLong) := by
  rw [exec_eq_command, command_of_tooLong h hc]

/-- All an instruction can answer with a next state: its own rule, ARG_TOO_LONG, or nothing. -/
theorem exec_next {i : Instr} {s t : State} (h : exec i s = .next t) :
    (s.running ∧ s.carries (carriedArg i) ∧ t = ruleState i s) ∨
    (s.running ∧ s.par.argMax < (carriedArg i).length ∧ t = s.raise .argTooLong) ∨
    (s.haltedByFault ∧ t = s) := by
  rw [exec_eq_command] at h
  exact command_next h

/-- PARSE answers OK, always. -/
theorem parseRsp_status (b : Bytes) : (parseRsp b).status = .ok := by
  unfold parseRsp
  repeat (first | rfl | split)

/-- CLASSIFY answers OK, always. -/
theorem classifyRsp_status (x : Option Byte) : (classifyRsp x).status = .ok := by
  unfold classifyRsp
  repeat (first | rfl | split)

end Sys2Proof.Machine
end

