-- ==== Sys2Proof/Laws/Decode.lean ====
section
/-! SUPPORT. What decoding can answer: every command word by its unit, and what a decoded command
carries. -/

namespace Sys2Proof.Machine

/-- A row of the map hits only its own words. -/
theorem opcodeMap_hits {r : OpcodeRow} {w : Byte} (hr : r ∈ opcodeMap) (hh : r.hits w = true)
    (o : Operands) :
    (r.build w o).operands? = some o ∧ encode (r.build w o) = .command ⟨w, o⟩ := by
  have full : ∀ p : Byte, decide (w &&& 0xFF = p) = true → w = p := by
    intro p hp
    have hall : w &&& 0xFF = w := by simpa using BitVec.and_allOnes (x := w)
    rw [← of_decide_eq_true hp, hall]
  have half : ∀ w : Byte, decide (w &&& 0xFE = 0x22) = true →
      w = if w.getLsbD 0 then 0x23 else 0x22 := by decide
  simp only [opcodeMap, List.mem_cons, List.not_mem_nil, or_false] at hr
  rcases hr with rfl | rfl | rfl | rfl | rfl | rfl | rfl | rfl | rfl | rfl | rfl | rfl | rfl
  case inr.inr.inr.inl =>
    refine ⟨rfl, ?_⟩
    show Encoded.command ⟨if w.getLsbD 0 then 0x23 else 0x22, o⟩ = _
    rw [← half w hh]
  all_goals
    refine ⟨rfl, ?_⟩
    rw [full _ hh]
    simp only [encode]

/-- A command word decodes to one of the thirteen operations, with the command's own operands, and only
from the operation's own word. -/
theorem decodeCommand_instr {c : Cmd} {i : Instr} (h : decodeCommand c = .instr i) :
    i.operands? = some c.operands ∧ encode i = .command c := by
  unfold decodeCommand at h
  split at h
  · rename_i r hr
    cases h
    exact opcodeMap_hits (List.mem_of_find?_eq_some hr)
      (List.find?_some (p := fun r : OpcodeRow => r.hits c.opc) hr) c.operands
  · cases h

/-- A held or issued command with word 0x25 is a READ. -/
theorem decodeCommand_read (o : Operands) : decodeCommand ⟨0x25, o⟩ = .instr (.read o) := by
  simp [decodeCommand, opcodeMap, OpcodeRow.hits]

end Sys2Proof.Machine
end

