-- ==== Sys2Proof/Laws/PerInstr.lean ====
section
/-! SUPPORT. A statement about every instruction as syntax, one lemma a constructor. -/

namespace Sys2Proof.Laws.UnitOfEncoding

/-- The unit OPC[7:4] selects: 1 the checksum unit, 2 the serial mux, 3 the frame codec
(30_encoding.md R71). -/
def unitCode : Instr → Byte
  | .crc8 _ => 0x1
  | i => if i.isMux then 0x2 else 0x3

/-- Where an instruction's encoding says what it is: a command in OPC[7:4] (R71), a frame in its first
byte, which fixes its length (R85), a response in its one byte (R84). -/
def Statement (i : Instr) : Prop :=
  i.wellFormed = true →
    match encode i with
    | .command c => c.opc >>> 4 = unitCode i
    | .frame b => frameLength (b.getD 0 0) = some b.length
    | .response v => decodeResponse v = .instr i

theorem crc8 (o : Operands) : Statement (.crc8 o) := fun _ => by simp [encode, unitCode]
theorem openConn (o : Operands) : Statement (.openConn o) := fun _ => by simp [encode, unitCode, Instr.isMux]
theorem closeConn (o : Operands) : Statement (.closeConn o) := fun _ => by simp [encode, unitCode, Instr.isMux]
theorem cfg (m : Bool) (o : Operands) : Statement (.cfg m o) := fun _ => by
  cases m <;> simp [encode, unitCode, Instr.isMux]
theorem write (o : Operands) : Statement (.write o) := fun _ => by simp [encode, unitCode, Instr.isMux]
theorem read (o : Operands) : Statement (.read o) := fun _ => by simp [encode, unitCode, Instr.isMux]
theorem flush (o : Operands) : Statement (.flush o) := fun _ => by simp [encode, unitCode, Instr.isMux]
theorem buildProbe (o : Operands) : Statement (.buildProbe o) := fun _ => by simp [encode, unitCode, Instr.isMux]
theorem buildErase (o : Operands) : Statement (.buildErase o) := fun _ => by simp [encode, unitCode, Instr.isMux]
theorem buildData (o : Operands) : Statement (.buildData o) := fun _ => by simp [encode, unitCode, Instr.isMux]
theorem buildTerm (o : Operands) : Statement (.buildTerm o) := fun _ => by simp [encode, unitCode, Instr.isMux]
theorem parse (o : Operands) : Statement (.parse o) := fun _ => by simp [encode, unitCode, Instr.isMux]
theorem classify (o : Operands) : Statement (.classify o) := fun _ => by simp [encode, unitCode, Instr.isMux]
theorem frameProbe : Statement .frameProbe := fun _ => rfl
theorem frameErase : Statement .frameErase := fun _ => rfl
theorem frameData (p : Bytes) (c : Byte) : Statement (.frameData p c) := by
  intro h
  have hp : p.length = 16 := of_decide_eq_true h
  show frameLength Config.dataStart = some (dataFrame p c).length
  simp [frameLength, dataFrame, hp, Config.dataFrameLen, Config.dataStart, Config.probeByte,
    Config.eraseA]
theorem frameTerm : Statement .frameTerm := fun _ => rfl
theorem respAck : Statement .respAck := fun _ => rfl
theorem respNack : Statement .respNack := fun _ => rfl
theorem respTimeout : Statement .respTimeout := fun _ => rfl

end Sys2Proof.Laws.UnitOfEncoding
end

