-- ==== Sys2Proof/Laws/Step.lean ====
section
/-! SUPPORT. What a step can do, once. -/

namespace Sys2Proof.Machine

/-- A command at the port runs as the instruction it decodes to. -/
theorem runCommand_of_decode {c : Cmd} {i : Instr} (h : decodeCommand c = .instr i) (s : State) :
    runCommand c s = exec i s := by
  simp [runCommand, h]

/-- All that trying a command can answer with a next state. -/
theorem runCommand_next {c : Cmd} {s t : State} (h : runCommand c s = .next t) :
    (∃ i, decodeCommand c = .instr i ∧ exec i s = .next t) ∨
    (∃ r, decodeCommand c = .reject r ∧ illegalCommand s = .next t) := by
  unfold runCommand at h
  split at h
  · rename_i i hi; exact .inl ⟨i, hi, h⟩
  · rename_i r hr; exact .inr ⟨r, hr, h⟩

/-- All the turn of the host and the block can answer with a next state: the pending command is tried,
the host issues a command that is tried at once, the host carries out a statement, or nothing happens
(the host waits for a response it never gets, or has nothing to do). -/
theorem blockTurn_next {s t : State} (h : blockTurn s = .next t) :
    (∃ c, s.port = some c ∧ runCommand c s = .next t) ∨
    (∃ c k, s.port = none ∧ s.abandoned = false ∧ hostMove s.rsp s.host = .issue c k ∧
      runCommand c (s.issue c k) = .next t) ∨
    (∃ k, s.port = none ∧ s.abandoned = false ∧ hostMove s.rsp s.host = .move k ∧
      t = s.hostMoved k) ∨
    (s.port = none ∧ (s.abandoned = true ∨ hostMove s.rsp s.host = .idle) ∧ t = s) := by
  unfold blockTurn at h
  split at h
  · rename_i c hc; exact .inl ⟨c, hc, h⟩
  · rename_i hp
    split at h
    · rename_i ha; exact .inr (.inr (.inr ⟨hp, .inl ha, by cases h; rfl⟩))
    · rename_i ha
      have ha' : s.abandoned = false := by simpa using ha
      split at h
      · rename_i hm; exact .inr (.inr (.inr ⟨hp, .inr hm, by cases h; rfl⟩))
      · rename_i c k hm; exact .inr (.inl ⟨c, k, hp, ha', hm, h⟩)
      · rename_i k hm; exact .inr (.inr (.inl ⟨k, hp, ha', hm, by cases h; rfl⟩))

/-- All a step can answer with a next state: a turn of the host and the block, an arrival, or reset. -/
theorem step_next {s t : State} (h : step s = .next t) :
    (s.atBlockTurn ∧ blockTurn s.turnTaken = .next t) ∨
    (∃ v, s.nextTurn = .device v ∧ arrive s.turnTaken v = .next t) ∨
    (s.nextTurn = .reset ∧ t = s.turnTaken.resetBlock) := by
  unfold step takeTurn at h
  split at h
  · rename_i hs; exact .inl ⟨hs, h⟩
  · rename_i v hs; exact .inr (.inl ⟨v, hs, h⟩)
  · rename_i hs; exact .inr (.inr ⟨hs, by cases h; rfl⟩)

/-- At the turn of the host and the block a step is that turn. -/
theorem step_of_atBlockTurn {s : State} (h : s.atBlockTurn) : step s = blockTurn s.turnTaken := by
  have h' : s.nextTurn = .block := h
  simp [step, takeTurn, h']

/-- At a turn of the device a step is its arrival. -/
theorem step_of_device {s : State} {v : Byte} (h : s.nextTurn = .device v) :
    step s = arrive s.turnTaken v := by simp [step, takeTurn, h]

/-- At a reset turn a step is reset. -/
theorem step_of_reset {s : State} (h : s.nextTurn = .reset) :
    step s = .next s.turnTaken.resetBlock := by simp [step, takeTurn, h]

/-- A run goes on from the next state. -/
theorem run_succ {s t : State} (h : step s = .next t) (n : Nat) : run (n + 1) s = run n t := by
  simp [run, h]

/-- A run of any machine from its next state. -/
theorem core_run_of_next (M : Host.Core) {s t : M.State} (h : M.step s = .next t) (n : Nat) :
    M.run (n + 1) s = M.run n t := by
  simp [Host.Core.run, h]

/-- A run of any machine that refuses at once. -/
theorem core_run_of_refused (M : Host.Core) {s : M.State} {r : M.Refusal}
    (h : M.step s = .refused r) (n : Nat) : M.run (n + 1) s = .refused r := by
  simp [Host.Core.run, h]

/-- A run is the host interface's run of the machine. -/
theorem run_eq_core_run (n : Nat) (s : State) : run n s = Host.Core.run Sys2Proof.core n s := by
  induction n generalizing s with
  | zero => rfl
  | succ n ih =>
    cases h : step s with
    | next t =>
      rw [run_succ h, ih t]
      exact (core_run_of_next Sys2Proof.core (s := s) (t := t) h n).symm
    | fault r => exact nomatch r
    | refused r =>
      have hr : run (n + 1) s = .refused r := by simp [run, h]
      rw [hr]
      exact (core_run_of_refused Sys2Proof.core (s := s) (r := r) h n).symm

/-- Nothing a step does ends in a fault of the machine. -/
theorem step_ne_fault (s : State) (r : Fault) : step s ≠ .fault r := nomatch r

end Sys2Proof.Machine
end

