-- ==== Sys2Proof/Tests/Slice0.lean ====
section
/-! SUPPORT. Tests: expected results are the vectors of 95_test_vectors.md (V-*) and the encodings of
30_encoding.md, never the model's own answers; and, for each statement with hypotheses, a state and
operands that meet them all together. -/

open Sys2Proof Sys2Proof.Machine

namespace Sys2Proof.Tests

/-! ### Small states -/

/-- The premises of 95_test_vectors.md: endpoint 0, no environment errors, RX_CAP unbounded,
ARG_MAX 64. -/
def vecPar : Config.Params :=
  { argMax := 64, rxCap := none, endpoints := .listed [0], devErrors := false, ioErrors := false }

/-- The reset state under those premises. -/
def closedState : State := { State.reset with par := vecPar }

/-- An open connection. -/
def openState (m : Mode) (q : Bytes) : State :=
  { closedState with conn := .opened, ep := some 0, mode := m, rxq := q }

/-- A halted block. -/
def haltedState (f : Byte) : State := { openState .handshake [] with fault := f }

/-- An open connection whose queue holds at most one byte. -/
def cappedState (m : Mode) (q : Bytes) : State :=
  { openState m q with par := { vecPar with rxCap := some 1 } }

/-- Operands with an ARG alone. -/
def argOf (b : Bytes) : Operands := { ep := 0, arg := b, opt := none }

/-- No operands. -/
def noArgs : Operands := argOf []

/-- ARG of 64 bytes, the longest one carried. -/
def fullArg : Operands := argOf (List.replicate 64 0x00)

/-- ARG of 65 bytes, one too many. -/
def longArg : Operands := argOf (List.replicate 65 0x00)

/-- The payload 00 .. 0F. -/
def ramp : Bytes :=
  [0x00, 0x01, 0x02, 0x03, 0x04, 0x05, 0x06, 0x07, 0x08, 0x09, 0x0A, 0x0B, 0x0C, 0x0D, 0x0E, 0x0F]

/-- The next state, where there is one. -/
def nextOf : Host.Outcome State Fault Refusal → Option State
  | .next t => some t
  | .fault _ => none
  | .refused _ => none

/-- The response after an instruction. -/
def rspAfter (i : Instr) (s : State) : Option Rsp := (nextOf (exec i s)).bind State.rsp

/-- The block's state after an instruction. -/
def blockAfter (i : Instr) (s : State) : Option BlockState := (nextOf (exec i s)).map State.block

/-- A state with a command at the port. -/
def pending (s : State) (opc : Byte) (o : Operands) : State := { s with port := some ⟨opc, o⟩ }

/-- A state whose one scheduled turn is that of the host and the block. -/
def atBlock (s : State) : State := { s with sched := [.block] }

/-! ### Well-formedness -/

/-- A Data frame with 15 payload bytes is refused (R82). -/
theorem test_wf_short_payload :
    (Instr.frameData (List.replicate 15 0x00) 0x00).wellFormed = false := by decide

/-- A Data frame with 17 payload bytes is refused (R82). -/
theorem test_wf_long_payload :
    (Instr.frameData (List.replicate 17 0x00) 0x00).wellFormed = false := by decide

theorem test_wf_data_frame :
    (Instr.frameData (List.replicate 16 0x00) 0x00).wellFormed = true := by decide

/-! ### Decoding: words written out from 30_encoding.md R75, R80 to R84 -/

theorem test_decode_crc8 : decodeTableWord 8 0b00010000 = some (.crc8 noArgs) := by decide
theorem test_decode_open : decodeTableWord 8 0b00100000 = some (.openConn noArgs) := by decide
theorem test_decode_close : decodeTableWord 8 0b00100001 = some (.closeConn noArgs) := by decide
theorem test_decode_cfg_hs : decodeTableWord 8 0b00100010 = some (.cfg false noArgs) := by decide
theorem test_decode_cfg_stream : decodeTableWord 8 0b00100011 = some (.cfg true noArgs) := by decide
theorem test_decode_write : decodeTableWord 8 0b00100100 = some (.write noArgs) := by decide
theorem test_decode_read : decodeTableWord 8 0b00100101 = some (.read noArgs) := by decide
theorem test_decode_flush : decodeTableWord 8 0b00100110 = some (.flush noArgs) := by decide
theorem test_decode_build_probe : decodeTableWord 8 0b00110000 = some (.buildProbe noArgs) := by decide
theorem test_decode_build_erase : decodeTableWord 8 0b00110001 = some (.buildErase noArgs) := by decide
theorem test_decode_build_data : decodeTableWord 8 0b00110010 = some (.buildData noArgs) := by decide
theorem test_decode_build_term : decodeTableWord 8 0b00110011 = some (.buildTerm noArgs) := by decide
theorem test_decode_parse : decodeTableWord 8 0b00110100 = some (.parse noArgs) := by decide
theorem test_decode_classify : decodeTableWord 8 0b00110101 = some (.classify noArgs) := by decide
theorem test_decode_frame_probe : decodeTableWord 8 0b00000001 = some .frameProbe := by decide
theorem test_decode_frame_erase :
    decodeTableWord 16 0b0001101001111111 = some .frameErase := by decide
/-- The bytes of V-PA-03 as one word, first byte on the wire first. -/
theorem test_decode_frame_data :
    decodeTableWord 152 0x02000102030405060708090A0B0C0D0E0F3C03 =
      some (.frameData ramp 0x3C) := by decide
theorem test_decode_frame_term : decodeTableWord 8 0b00000100 = some .frameTerm := by decide
theorem test_decode_resp_ack : decodeTableWord 8 0b00000110 = some .respAck := by decide
theorem test_decode_resp_nack : decodeTableWord 8 0b00010101 = some .respNack := by decide
theorem test_decode_resp_timeout : decodeTableWord 8 0b00000000 = some .respTimeout := by decide
/-- The neighbours of CFG's and of the last row's codes (R76). -/
theorem test_decode_illegal :
    decodeCommand ⟨0x27, noArgs⟩ = .reject (.illegalOp 0x27) ∧
    decodeCommand ⟨0x36, noArgs⟩ = .reject (.illegalOp 0x36) := by decide
/-- V-PA-10: the Erase bytes in the other order are no frame. -/
theorem test_decode_erase_order : decodeFrame [0x7F, 0x1A] = .reject (.notAFrame [0x7F, 0x1A]) := by
  decide

/-! ### Every row of the table runs as the first command after reset -/

/-- Whether a step has a next state that answers the command (a held READ answers nothing, and no
command of this list can hold while closed). -/
def answers (s : State) : Bool :=
  match step s with
  | .next t => decide (t.port = none)
  | .fault _ => false
  | .refused _ => false

theorem test_rows_run_after_reset :
    ([0x10, 0x21, 0x22, 0x24, 0x25, 0x26, 0x30, 0x31, 0x32, 0x33, 0x34, 0x35, 0x01, 0x04, 0x06, 0x15,
      0x00].all fun w => answers (State.reset.withFetchWord 8 w)) = true ∧
    answers (State.reset.withFetchWord 16 0x1A7F) = true := by decide

/-- OPEN asks the free ENDPOINTS, so only that it has a next state is decided. -/
theorem test_open_row_runs_after_reset :
    ∃ t, step (State.reset.withFetchWord 8 0x20) = .next t := ⟨_, rfl⟩

/-! ### Checksum unit -/

set_option maxRecDepth 8000 in
/-- V-CRC-16, the ROM example, and V-CRC-17, the catalogue check value. -/
theorem test_crc8_published :
    rspAfter (.crc8 (argOf [0x02, 0x1C, 0xB8, 0x01, 0x00, 0x00, 0x00])) closedState =
      some ⟨.ok, 0x00, [0xA2], none⟩ ∧
    rspAfter (.crc8 (argOf [0x31, 0x32, 0x33, 0x34, 0x35, 0x36, 0x37, 0x38, 0x39])) closedState =
      some ⟨.ok, 0x00, [0xA1], none⟩ := by decide

/-- The bit trace of V-CRC-03. -/
theorem test_crc8_bit_trace :
    crc8Bit 0x00 true = 0x8C ∧ crc8Bit 0x8C false = 0x46 ∧ crc8Bit 0x46 false = 0x23 ∧
    crc8Bit 0x23 false = 0x9D ∧ crc8Bit 0x9D false = 0xC2 ∧ crc8Bit 0xC2 false = 0x61 ∧
    crc8Bit 0x61 false = 0xBC ∧ crc8Bit 0xBC false = 0x5E := by decide

/-! ### Frame codec -/

theorem test_build_probe : rspAfter (.buildProbe noArgs) closedState = some ⟨.ok, 0x00, [0x01], none⟩ := by
  decide
/-- V-FR-12. -/
theorem test_build_probe_long_arg :
    rspAfter (.buildProbe longArg) closedState = some ⟨.fault, 0x02, [], none⟩ := by decide
theorem test_build_erase :
    rspAfter (.buildErase noArgs) closedState = some ⟨.ok, 0x00, [0x1A, 0x7F], none⟩ := by decide
theorem test_build_term : rspAfter (.buildTerm noArgs) closedState = some ⟨.ok, 0x00, [0x04], none⟩ := by
  decide

set_option maxRecDepth 8000 in
/-- V-FR-03. -/
theorem test_build_data :
    rspAfter (.buildData (argOf ramp)) closedState =
      some ⟨.ok, 0x00, [0x02, 0x00, 0x01, 0x02, 0x03, 0x04, 0x05, 0x06, 0x07, 0x08, 0x09, 0x0A, 0x0B,
        0x0C, 0x0D, 0x0E, 0x0F, 0x3C, 0x03], none⟩ := by decide

/-- V-FR-09. -/
theorem test_build_data_length :
    rspAfter (.buildData (argOf (List.replicate 17 0x00))) closedState =
      some ⟨.fault, 0x06, [], none⟩ := by decide

set_option maxRecDepth 8000 in
/-- V-PA-06. -/
theorem test_parse_bad_payload :
    rspAfter (.parse (argOf [0x02, 0x00, 0x01, 0x02, 0x03, 0x14, 0x05, 0x06, 0x07, 0x08, 0x09, 0x0A,
      0x0B, 0x0C, 0x0D, 0x0E, 0x0F, 0x3C, 0x03])) closedState =
      some ⟨.ok, 0x04, [0x00, 0x01, 0x02, 0x03, 0x14, 0x05, 0x06, 0x07, 0x08, 0x09, 0x0A, 0x0B, 0x0C,
        0x0D, 0x0E, 0x0F], some 0x3C⟩ := by decide

set_option maxRecDepth 8000 in
/-- V-PA-07. -/
theorem test_parse_wrong_trailer :
    rspAfter (.parse (argOf ([0x02] ++ ramp ++ [0x3C, 0x04]))) closedState =
      some ⟨.ok, 0x05, [], none⟩ := by decide

/-- V-CL-01, V-CL-02. -/
theorem test_classify_timeout :
    rspAfter (.classify noArgs) closedState = some ⟨.ok, 0x03, [], none⟩ ∧
    rspAfter (.classify { noArgs with opt := some 0x00 }) closedState = some ⟨.ok, 0x03, [], none⟩ := by
  decide

/-- V-CL-03, V-CL-04, V-CL-10. -/
theorem test_classify_bytes :
    rspAfter (.classify { noArgs with opt := some 0x06 }) closedState = some ⟨.ok, 0x00, [], none⟩ ∧
    rspAfter (.classify { noArgs with opt := some 0x15 }) closedState = some ⟨.ok, 0x01, [], none⟩ ∧
    rspAfter (.classify { noArgs with opt := some 0x86 }) closedState =
      some ⟨.ok, 0x02, [0x86], none⟩ := by decide

/-- V-PA-01. -/
theorem test_frame_probe : rspAfter .frameProbe closedState = some ⟨.ok, 0x00, [], none⟩ := by decide
/-- V-PA-02. -/
theorem test_frame_erase : rspAfter .frameErase closedState = some ⟨.ok, 0x01, [], none⟩ := by decide
/-- V-PA-04. -/
theorem test_frame_term : rspAfter .frameTerm closedState = some ⟨.ok, 0x03, [], none⟩ := by decide

set_option maxRecDepth 8000 in
/-- V-PA-03, V-PA-05. -/
theorem test_frame_data :
    rspAfter (.frameData ramp 0x3C) closedState = some ⟨.ok, 0x02, ramp, none⟩ ∧
    rspAfter (.frameData ramp 0x3D) closedState = some ⟨.ok, 0x04, ramp, some 0x3D⟩ := by decide

/-- V-CL-03, V-CL-04, V-CL-02 by the wire rows. -/
theorem test_response_rows :
    rspAfter .respAck closedState = some ⟨.ok, 0x00, [], none⟩ ∧
    rspAfter .respNack closedState = some ⟨.ok, 0x01, [], none⟩ ∧
    rspAfter .respTimeout closedState = some ⟨.ok, 0x03, [], none⟩ := by decide

/-! ### Serial mux -/

/-- V-TR-01. -/
theorem test_open : blockAfter (.openConn noArgs) closedState =
    some ⟨.opened, some 0, .unconfigured, [], 0x00, []⟩ := by decide
/-- V-TR-04. -/
theorem test_open_twice : blockAfter (.openConn noArgs) (openState .handshake [0x06]) =
    some ⟨.opened, some 0, .handshake, [0x06], 0x04, []⟩ := by decide
/-- V-TR-06. -/
theorem test_cfg_keeps_input : blockAfter (.cfg true noArgs) (openState .handshake [0x41]) =
    some ⟨.opened, some 0, .streaming, [0x41], 0x00, []⟩ := by decide
/-- V-TR-08. -/
theorem test_cfg_closed : rspAfter (.cfg false noArgs) closedState = some ⟨.fault, 0x03, [], none⟩ := by
  decide
/-- V-TR-09, V-TR-11. -/
theorem test_write :
    blockAfter (.write (argOf [0x01])) (openState .handshake []) =
      some ⟨.opened, some 0, .handshake, [], 0x00, [0x01]⟩ ∧
    blockAfter (.write (argOf [0x01])) (openState .unconfigured []) =
      some ⟨.opened, some 0, .unconfigured, [], 0x05, []⟩ := by decide
/-- V-TR-15. -/
theorem test_read_head :
    rspAfter (.read noArgs) (openState .handshake [0x41, 0x06]) = some ⟨.ok, 0x00, [], some 0x41⟩ ∧
    blockAfter (.read noArgs) (openState .handshake [0x41, 0x06]) =
      some ⟨.opened, some 0, .handshake, [0x06], 0x00, []⟩ := by decide
/-- V-TR-16: the timer has fired. V-TR-18: a Streaming READ of an empty queue holds. -/
theorem test_read_empty :
    rspAfter (.read noArgs) { openState .handshake [] with hold := some (.untilByteOrTimer 0) } =
      some ⟨.ok, 0x00, [], none⟩ ∧
    (nextOf (step (atBlock (pending (openState .streaming []) 0x25 noArgs)))).map (fun t => (t.port, t.rsp)) =
      some (some ⟨0x25, noArgs⟩, none) := by decide
/-- V-TR-23. -/
theorem test_flush : blockAfter (.flush noArgs) (openState .handshake [0x41, 0x42]) =
    some ⟨.opened, some 0, .handshake, [], 0x00, []⟩ := by decide
/-- V-TR-25. -/
theorem test_flush_closed : rspAfter (.flush noArgs) closedState = some ⟨.fault, 0x03, [], none⟩ := by
  decide
/-- V-TR-26. -/
theorem test_close : blockAfter (.closeConn noArgs) (openState .streaming [0x15]) =
    some ⟨.closed, none, .unconfigured, [], 0x00, []⟩ := by decide
/-- V-TR-27. -/
theorem test_close_closed : blockAfter (.closeConn noArgs) closedState =
    some ⟨.closed, none, .unconfigured, [], 0x00, []⟩ := by decide

/-- R11: a held READ does nothing until another agent moves, whatever the free draw is (IO_ERRORS is
true here): in Streaming mode, and in Handshake mode while the timer runs. -/
theorem test_held_read_draws_nothing :
    let p : Config.Params := { vecPar with ioErrors := true }
    let s : State := { pending (openState .streaming []) 0x25 noArgs with
      par := p, hold := some .untilByte }
    let h : State := { pending (openState .handshake []) 0x25 noArgs with
      par := p, hold := some (.untilByteOrTimer 2) }
    step (atBlock s) = .next s ∧
    step (atBlock h) = .next { h with hold := some (.untilByteOrTimer 1) } := ⟨rfl, rfl⟩

/-- V-TR-17, V-TR-19: a byte that arrives ends the hold. -/
theorem test_arrival_ends_hold :
    (nextOf (run 2 { pending (openState .streaming []) 0x25 noArgs with
      hold := some .untilByte, sched := [.device 0x15, .block] })).map (fun t => (t.rsp, t.rxq, t.hold)) =
      some (some ⟨.ok, 0x00, [], some 0x15⟩, [], none) ∧
    (nextOf (run 2 { pending (openState .handshake []) 0x25 noArgs with
      hold := some (.untilByteOrTimer 7), sched := [.device 0x06, .block] })).map
        (fun t => (t.rsp, t.rxq, t.hold)) =
      some (some ⟨.ok, 0x00, [], some 0x06⟩, [], none) := by decide

/-- V-TR-30. -/
theorem test_arrival_overflow :
    (nextOf (step { cappedState .handshake [0x06] with sched := [.device 0x15] })).map State.block =
      some ⟨.opened, some 0, .handshake, [0x06], 0x07, []⟩ := by decide

/-- V-TR-13, V-TR-22: what a drawn failure does; the draws are hypotheses, since no proof can see them. -/
theorem test_write_failure (hf : Config.drawFail 0 = true) (hk : Config.drawPrefix 0 = 1) :
    blockAfter (.write (argOf [0x1A, 0x7F]))
      { openState .handshake [] with par := { vecPar with ioErrors := true } } =
      some ⟨.opened, some 0, .handshake, [], 0x00, [0x1A]⟩ := by
  simp [blockAfter, nextOf, exec, execWrite, command, whenRunning, State.reservedFault, State.halted,
    argTooLong, writeRule, transferFails, sentPrefix, openState, closedState, State.reset, vecPar, argOf,
    hf, hk, State.drawn, State.txAppend, State.respond, State.block]

/-! ### Faults, halt, reset -/

/-- V-FT-04: ILLEGAL_OP before ARG_TOO_LONG. -/
theorem test_illegal_before_long :
    (nextOf (step (atBlock (pending closedState 0x36 longArg)))).bind State.rsp =
      some ⟨.fault, 0x01, [], none⟩ := by decide
/-- V-FT-05: ARG_TOO_LONG before NOT_OPEN. -/
theorem test_long_before_closed :
    rspAfter (.write longArg) closedState = some ⟨.fault, 0x02, [], none⟩ := by decide
/-- V-FT-06. -/
theorem test_halted_close :
    nextOf (exec (.closeConn noArgs) (haltedState 0x05)) = some (haltedState 0x05) := by decide
/-- V-RS-01, with something in TXLOG. -/
theorem test_reset :
    (nextOf (step { openState .streaming [0x06, 0x15] with
      fault := 0x05, txlog := [0x01], sched := [.reset] })).map State.block =
      some ⟨.closed, none, .unconfigured, [], 0x00, []⟩ := by decide
/-- V-RS-02: a held READ is abandoned without a response. -/
theorem test_reset_held_read :
    (nextOf (step { pending (openState .streaming []) 0x25 noArgs with sched := [.reset] })).map
      (fun t => (t.port, t.rsp)) = some (none, none) := by decide

/-! ### The host agent -/

/-- Program P2: a third Probe is not answered, `dec k` makes 0 and the program goes on. -/
theorem test_dec_falls_through :
    hostMove none { HostState.start [.label 1, .dec 0 1, .stop 7] with
      rest := [.dec 0 1, .stop 7], counters := [(0, 1)] } =
      .move { prog := [.label 1, .dec 0 1, .stop 7], rest := [.stop 7], counters := [(0, 0)]
              outcome := none } := by decide

/-- Of two lines with one label the first is gone to (log 16). -/
theorem test_repeated_label :
    linesAfter 1 [.label 1, .delay, .label 1, .stop 7] = [.delay, .label 1, .stop 7] := by decide

/-- `write $d` after BUILD.ERASE writes the frame (program P1, line 9). -/
theorem test_write_prev_data :
    (nextOf (step { openState .handshake [] with
      rsp := some ⟨.ok, 0x00, [0x1A, 0x7F], none⟩, sched := [.block]
      host := HostState.start (assemble [.write .prevData]) })).map State.txlog =
      some [0x1A, 0x7F] := by decide

/-- V-BK-03: the padded second block of a 20-byte image. -/
theorem test_block_padding :
    blockCount 20 = 2 ∧
    blockOf (ramp ++ [0x10, 0x11, 0x12, 0x13]) 1 =
      [0x10, 0x11, 0x12, 0x13] ++ List.replicate 12 0xFF := by decide

/-- V-BK-02, V-BK-06: no padding block is added, and an empty image has none. -/
theorem test_block_exact : blockCount 16 = 1 ∧ blockOf ramp 0 = ramp ∧ blockCount 0 = 0 := by decide

/-! ### Witnesses: the hypotheses of each statement can be met -/

theorem witness_decode_of_encode :
    (Instr.frameData ramp 0x3C).wellFormed = true ∧ Instr.frameErase.wellFormed = true ∧
    (Instr.cfg true longArg).wellFormed = true := by decide

theorem witness_encode_of_decode :
    decode (.frame ([0x02] ++ ramp ++ [0x3C] ++ [0x03])) = .instr (.frameData ramp 0x3C) ∧
    decode (.command ⟨0x23, fullArg⟩) = .instr (.cfg true fullArg) ∧
    decode (.response 0x00) = .instr .respTimeout := by decide

/-- The ends of the four ranges of illegal command words. -/
theorem witness_illegal_opcodes :
    ∀ opc ∈ ([0x00, 0x0F, 0x11, 0x1F, 0x27, 0x2F, 0x36, 0xFF] : List Byte),
      (atBlock (pending closedState opc longArg)).running ∧
      (atBlock (pending closedState opc longArg)).atBlockTurn ∧
      (atBlock (pending closedState opc longArg)).port = some ⟨opc, longArg⟩ ∧
      (opc ≤ 0x0F ∨ (0x11 ≤ opc ∧ opc ≤ 0x1F) ∨ (0x27 ≤ opc ∧ opc ≤ 0x2F) ∨ 0x36 ≤ opc) := by
  have h : ∀ opc ∈ ([0x00, 0x0F, 0x11, 0x1F, 0x27, 0x2F, 0x36, 0xFF] : List Byte),
      (opc ≤ 0x0F ∨ (0x11 ≤ opc ∧ opc ≤ 0x1F) ∨ (0x27 ≤ opc ∧ opc ≤ 0x2F) ∨ 0x36 ≤ opc) := by decide
  exact fun opc ho => ⟨rfl, rfl, rfl, h opc ho⟩

theorem witness_frame_length :
    decodeFrame [0x01] = .instr .frameProbe ∧ decodeFrame [0x1A, 0x7F] = .instr .frameErase ∧
    decodeFrame [0x04] = .instr .frameTerm ∧
    decodeFrame ([0x02] ++ ramp ++ [0x3D] ++ [0x03]) = .instr (.frameData ramp 0x3D) := by decide

theorem witness_step_runs :
    (atBlock (pending closedState 0x21 noArgs)).atBlockTurn ∧
    (atBlock (pending closedState 0x21 noArgs)).port = some ⟨0x21, noArgs⟩ ∧
    decodeCommand ⟨0x21, noArgs⟩ = .instr (.closeConn noArgs) ∧
    ({ closedState with sched := [.device 0x15, .reset] } : State).sched = .device 0x15 :: [.reset] ∧
    closedState.sched = [] := ⟨rfl, rfl, rfl, rfl, rfl⟩

/-- With nothing scheduled the next turn is whatever the environment draws, the device's for one; the draw
is free, so it is a hypothesis. -/
theorem witness_drawn_turn (hd : Config.turns 0 = [.device 0x15]) :
    closedState.sched = [] ∧ closedState.nextTurn = .device 0x15 ∧ closedState.turnTaken.atBlockTurn ∧
    closedState.turnTaken.turnTaken.stretches = 1 := by
  have hp : closedState.plan = [.device 0x15, .block] := by
    simp [State.plan, closedState, State.reset, hd]
  have ht : closedState.turnTaken.plan = [.block] := by
    simp [State.plan, State.turnTaken, closedState, State.reset, hd]
  refine ⟨rfl, by simp [State.nextTurn, hp], by simp [State.atBlockTurn, State.nextTurn, ht], ?_⟩
  simp [State.turnTaken, State.plan, State.stretchesAfter, closedState, State.reset, hd]

/-- The block has its turn where the environment draws no other. -/
theorem witness_drawn_nothing (hd : Config.turns 0 = []) :
    closedState.sched = [] ∧ Config.turns closedState.stretches = [] ∧ closedState.atBlockTurn := by
  refine ⟨rfl, hd, ?_⟩
  simp [State.atBlockTurn, State.nextTurn, State.plan, closedState, State.reset, hd]

/-- A legal command behind a label and a delay; an illegal one, in a running and in a halted block. -/
theorem witness_step_issues :
    let s : State := { closedState with
      host := HostState.start [.label 1, .delay, .command 0x10 0 (.lit [0x01]) .absent]
      sched := [.block] }
    let u : State := { atBlock closedState with host := HostState.start [.command 0x27 0 (.lit []) .absent] }
    (s.atBlockTurn ∧ s.port = none ∧ s.abandoned = false ∧
      skipNoStep s.host.rest = .command 0x10 0 (.lit [0x01]) .absent :: [] ∧
      decodeCommand ⟨0x10, ⟨0, evalBytes s.rsp (.lit [0x01]), evalOpt s.rsp .absent⟩⟩ =
        .instr (.crc8 (argOf [0x01]))) ∧
    (u.atBlockTurn ∧ u.port = none ∧ u.abandoned = false ∧
      skipNoStep u.host.rest = .command 0x27 0 (.lit []) .absent :: [] ∧
      decodeCommand ⟨0x27, ⟨0, evalBytes u.rsp (.lit []), evalOpt u.rsp .absent⟩⟩ =
        .reject (.illegalOp 0x27) ∧ u.running ∧
      ({ u with fault := 0x05 } : State).haltedByFault) :=
  ⟨⟨rfl, rfl, rfl, rfl, rfl⟩, ⟨rfl, rfl, rfl, rfl, rfl, rfl, by decide⟩⟩

/-- One state for each case: closed; unconfigured with the queue full and not; configured likewise. -/
theorem witness_arrival :
    ∀ s ∈ [closedState, cappedState .unconfigured [0x41], cappedState .unconfigured [],
      cappedState .handshake [0x06], cappedState .streaming []],
      ({ s with sched := [.device 0x15] } : State).running ∧
      ({ s with sched := [.device 0x15] } : State).rxWithinCap ∧
      ({ s with sched := [.device 0x15] } : State).nextTurn = .device 0x15 := by
  simp [State.nextTurn, State.plan, cappedState, openState, closedState, State.reset, vecPar, State.running, State.rxWithinCap]

theorem witness_reset_turn :
    ({ haltedState 0x07 with sched := [.reset] } : State).nextTurn = .reset := rfl

theorem witness_invariant :
    (atBlock (cappedState .handshake [0x06])).Inv ∧
    step (atBlock (cappedState .handshake [0x06])) = .next (cappedState .handshake [0x06]) ∧
    ({ pending (openState .handshake []) 0x25 noArgs with hold := some (.untilByteOrTimer 3) } : State).Inv ∧
    closedState.Inv := by
  refine ⟨?_, rfl, ?_, ?_⟩ <;>
    simp [State.Inv, State.epMatchesConn, State.rxWithinCap, Config.Params.wf, State.holdIsARead,
      Config.Endpoints.has, atBlock, cappedState, openState, closedState, State.reset, vecPar, pending]

theorem witness_halted :
    (haltedState 0x01).haltedByFault ∧ (haltedState 0x07).haltedByFault ∧
    ({ haltedState 0x05 with sched := [.device 0x06] } : State).nextTurn = .device 0x06 ∧
    (atBlock (pending (haltedState 0x05) 0x21 noArgs)).atBlockTurn ∧
    (pending (haltedState 0x05) 0x21 noArgs).haltedByFault ∧
    (pending (haltedState 0x05) 0x21 noArgs).port = some ⟨0x21, noArgs⟩ ∧
    7 < (haltedState 0x08).fault.toNat ∧ 7 < (haltedState 0xFF).fault.toNat ∧
    ({ haltedState 0x08 with sched := [.device 0x06] } : State).nextTurn = .device 0x06 ∧
    7 < (pending (haltedState 0x08) 0x27 noArgs).fault.toNat ∧
    (atBlock (pending (haltedState 0x08) 0x27 noArgs)).atBlockTurn ∧
    (pending (haltedState 0x08) 0x27 noArgs).port = some ⟨0x27, noArgs⟩ :=
  ⟨by decide, by decide, rfl, rfl, by decide, rfl, by decide, by decide, rfl, by decide, rfl, rfl⟩

theorem witness_sticky :
    (haltedState 0x05).fault ≠ 0x00 ∧ step (atBlock (haltedState 0x05)) = .next (haltedState 0x05) ∧
    step { haltedState 0x05 with sched := [.reset] } = .next closedState ∧
    step (atBlock (pending (haltedState 0x05) 0x21 noArgs)) =
      .next (pending (haltedState 0x05) 0x21 noArgs) ∧
    step { atBlock (haltedState 0x05) with host := HostState.start [.command 0x21 0 (.lit []) .absent] } =
      .next { pending (haltedState 0x05) 0x21 noArgs with
        host := { HostState.start [.command 0x21 0 (.lit []) .absent] with rest := [] } } :=
  ⟨by decide, rfl, rfl, rfl, rfl⟩

theorem witness_long_argument :
    (Instr.read longArg).operands? = some longArg ∧ closedState.running ∧
    closedState.par.argMax < longArg.arg.length := by decide

theorem witness_precise :
    closedState.running ∧ exec (.flush noArgs) closedState = .next (closedState.raise .notOpen) ∧
    (closedState.raise .notOpen).fault ≠ 0x00 ∧
    (cappedState .handshake [0x06]).running ∧
    step { cappedState .handshake [0x06] with sched := [.device 0x15] } =
      .next ((cappedState .handshake [0x06]).raiseInArrival .rxOverflow) ∧
    ((cappedState .handshake [0x06]).raiseInArrival .rxOverflow).fault ≠ 0x00 :=
  ⟨by decide, rfl, by decide, by decide, rfl, by decide⟩

/-- DEVICE_ERROR by an endpoint that does not exist. -/
theorem witness_device_error :
    closedState.running ∧
    exec (.openConn { noArgs with ep := 9 }) closedState = .next (closedState.respond deviceErrorRsp) ∧
    (closedState.respond deviceErrorRsp).rsp = some deviceErrorRsp ∧
    (closedState.respond deviceErrorRsp).rsp ≠ closedState.rsp ∧
    deviceErrorRsp.status = .deviceError := ⟨by decide, rfl, rfl, by decide, rfl⟩

/-- IO_ERROR exists only where the free draw fails, which is therefore a hypothesis here. -/
theorem witness_io_error (hf : Config.drawFail 0 = true) (hd : Config.drawDrop 0 = false) :
    let s : State := { openState .handshake [] with par := { vecPar with ioErrors := true } }
    s.running ∧ exec (.read noArgs) s = .next (s.drawn.respond ioErrorRsp) ∧
    (s.drawn.respond ioErrorRsp).rsp = some ioErrorRsp ∧
    (s.drawn.respond ioErrorRsp).rsp ≠ s.rsp ∧ ioErrorRsp.status = .ioError := by
  refine ⟨rfl, ?_, rfl, by decide, rfl⟩
  simp [exec, execRead, command, whenRunning, State.reservedFault, State.halted, argTooLong, readRule,
    stillHeld, readStep, transferFails, readDrops, openState, closedState, State.reset, vecPar, noArgs, argOf, hf, hd]

theorem witness_only_read_holds :
    closedState.running ∧ ∀ o, Instr.closeConn noArgs ≠ .read o := ⟨rfl, fun _ h => nomatch h⟩

/-- The READ still holds, and its command stays at the port; a host whose command was abandoned. -/
theorem witness_host_waits :
    (pending (openState .streaming []) 0x25 noArgs).port = some ⟨0x25, noArgs⟩ ∧
    step (atBlock (pending (openState .streaming []) 0x25 noArgs)) =
      .next ((pending (openState .streaming []) 0x25 noArgs).drawn.holdOn .untilByte) ∧
    ({ closedState with abandoned := true } : State).port = none ∧
    ({ closedState with abandoned := true } : State).abandoned = true ∧
    step { atBlock closedState with abandoned := true } = .next { closedState with abandoned := true } :=
  ⟨rfl, rfl, rfl, rfl, rfl⟩

theorem witness_crc_linear : ([0x01] : Bytes).length = ([0x02] : Bytes).length := by decide

/-- ARG at ARG_MAX and one over. -/
theorem witness_crc8 :
    closedState.running ∧ closedState.carries fullArg.arg ∧
    closedState.par.argMax < longArg.arg.length := by decide

theorem witness_encoders :
    closedState.running ∧ closedState.carries fullArg.arg ∧
    closedState.par.argMax < longArg.arg.length := by decide

/-- ARG of 16 bytes, of 15 and of 17. -/
theorem witness_build_data :
    closedState.running ∧ closedState.carries ramp ∧ ramp.length = 16 ∧
    closedState.carries (List.replicate 15 0x00) ∧
    (List.replicate 15 (0x00 : Byte)).length ≠ 16 ∧
    closedState.carries (List.replicate 17 0x00) ∧
    (List.replicate 17 (0x00 : Byte)).length ≠ 16 := by decide

/-- One ARG for each clause; the last, of 18 bytes, is no frame. -/
theorem witness_parse :
    closedState.running ∧
    (∀ b ∈ [[0x01], [0x1A, 0x7F], [0x04], [0x02] ++ ramp ++ [0x3C] ++ [0x03],
      [0x02] ++ ramp ++ [0x3D] ++ [0x03], [0x02] ++ ramp ++ [0x3C]], closedState.carries b) ∧
    ramp.length = 16 ∧
    ∀ (p : Bytes) (c : Byte), p.length = 16 →
      [0x02] ++ ramp ++ [0x3C] ≠ [0x02] ++ p ++ [c] ++ [0x03] := by
  refine ⟨rfl, by decide, by decide, fun p c hp h => ?_⟩
  have hl := congrArg List.length h
  simp [ramp, hp] at hl

set_option maxRecDepth 8000 in
theorem witness_classify :
    ∀ x ∈ ([none, some 0x00, some 0x06, some 0x15, some 0x07] : List (Option Byte)),
      closedState.running ∧ closedState.carries ({ fullArg with opt := x } : Operands).arg := by decide

theorem witness_wire_frames :
    closedState.running ∧ closedState.par.wf ∧ ramp.length = 16 ∧
    ({ closedState with par := { vecPar with argMax := 19 } } : State).par.wf := by decide

theorem witness_response_bytes : closedState.running := rfl

set_option maxRecDepth 8000 in
theorem witness_malformed :
    closedState.running ∧ closedState.carries [0x06] ∧
    exec (.parse (argOf [0x06])) closedState = .next (closedState.respond (okRsp 0x05)) ∧
    (closedState.respond (okRsp 0x05)).rsp = some (okRsp 0x05) ∧
    closedState.carries ([0x02] ++ ramp ++ [0x3D] ++ [0x03]) ∧
    exec (.parse (argOf ([0x02] ++ ramp ++ [0x3D] ++ [0x03]))) closedState =
      .next (closedState.respond (okRsp 0x04 ramp (some 0x3D))) :=
  ⟨by decide, by decide, rfl, rfl, by decide, rfl⟩

set_option maxRecDepth 8000 in
/-- A BUILD and the PARSE of its frame, for the Data frame and for the Erase frame. -/
theorem witness_parse_inverts :
    closedState.running ∧ closedState.par.wf ∧ closedState.carries (argOf ramp).arg ∧
    (argOf ramp).arg.length = 16 ∧
    exec (.buildData (argOf ramp)) closedState =
      .next (closedState.respond (okRsp (data := [0x02] ++ ramp ++ [0x3C] ++ [0x03]))) ∧
    (closedState.respond (okRsp (data := [0x02] ++ ramp ++ [0x3C] ++ [0x03]))).rsp =
      some (okRsp (data := [0x02] ++ ramp ++ [0x3C] ++ [0x03])) ∧
    (argOf ([0x02] ++ ramp ++ [0x3C] ++ [0x03])).arg =
      (okRsp (data := [0x02] ++ ramp ++ [0x3C] ++ [0x03])).data ∧
    exec (.buildErase noArgs) closedState =
      .next (closedState.respond (okRsp (data := [0x1A, 0x7F]))) :=
  ⟨by decide, by decide, by decide, by decide, rfl, rfl, rfl, rfl⟩

set_option maxRecDepth 8000 in
/-- A flip in the last payload byte, and one in the checksum byte. -/
theorem witness_single_bit :
    ∀ j ∈ [15, 16], ramp.length = 16 ∧ j < 17 ∧ 7 < 8 ∧ closedState.running ∧
      closedState.carries (([0x02] : Bytes) ++
        (ramp ++ [crc8 ramp]).set j ((ramp ++ [crc8 ramp]).getD j 0x00 ^^^ (0x01#8 <<< 7)) ++
          [0x03]) := by decide

theorem witness_other_units :
    (Instr.crc8 fullArg).isMux = false ∧ closedState.running ∧ closedState.par.argMax = 64 ∧
    exec (.buildData noArgs) closedState = .next (closedState.raise .badLength) :=
  ⟨by decide, by decide, by decide, rfl⟩

/-- States for the cases of OPEN: open; an unknown endpoint; a known one with DEV_ERRORS false. -/
theorem witness_open :
    (openState .handshake []).running ∧ (openState .handshake []).carries fullArg.arg ∧
    (openState .handshake []).conn = .opened ∧
    closedState.running ∧ closedState.carries fullArg.arg ∧ closedState.conn = .closed ∧
    closedState.par.endpoints.has 9 = false ∧ closedState.par.endpoints.has 0 = true ∧
    closedState.par.devErrors = false := by decide

/-- The drawn failures of OPEN, CFG, WRITE and READ: the draw is free, so it is a hypothesis. -/
theorem witness_drawn_failures (hf : Config.drawFail 0 = true) :
    let a : State := { closedState with par := { vecPar with devErrors := true } }
    let b : State := { openState .unconfigured [] with par := { vecPar with devErrors := true } }
    let c : State := { openState .handshake [0x06] with par := { vecPar with ioErrors := true } }
    (a.running ∧ a.carries fullArg.arg ∧ a.conn = .closed ∧ a.par.endpoints.has 0 = true ∧
      a.par.devErrors = true ∧ Config.drawFail a.draws = true) ∧
    (b.running ∧ b.carries fullArg.arg ∧ b.conn = .opened ∧ b.par.devErrors = true ∧
      Config.drawFail b.draws = true) ∧
    (c.running ∧ c.carries fullArg.arg ∧ c.conn = .opened ∧ c.mode ≠ .unconfigured ∧
      c.par.ioErrors = true ∧ Config.drawFail c.draws = true) :=
  ⟨⟨rfl, by decide, rfl, rfl, rfl, hf⟩, ⟨rfl, by decide, rfl, rfl, hf⟩,
    ⟨rfl, by decide, rfl, by decide, rfl, hf⟩⟩

theorem witness_close :
    (openState .streaming [0x15]).running ∧ (openState .streaming [0x15]).carries fullArg.arg := by
  decide

theorem witness_cfg :
    closedState.running ∧ closedState.carries fullArg.arg ∧ closedState.conn = .closed ∧
    (openState .unconfigured []).running ∧ (openState .unconfigured []).carries fullArg.arg ∧
    (openState .unconfigured []).conn = .opened ∧
    (openState .unconfigured []).par.devErrors = false := by decide

theorem witness_write :
    closedState.running ∧ closedState.carries fullArg.arg ∧ closedState.conn = .closed ∧
    (openState .unconfigured []).running ∧ (openState .unconfigured []).mode = .unconfigured ∧
    (openState .streaming []).running ∧ (openState .streaming []).carries fullArg.arg ∧
    (openState .streaming []).conn = .opened ∧ (openState .streaming []).mode ≠ .unconfigured ∧
    (openState .streaming []).par.ioErrors = false := by decide

theorem witness_read :
    (openState .handshake [0x41, 0x06]).running ∧
    (openState .handshake [0x41, 0x06]).carries fullArg.arg ∧
    (openState .handshake [0x41, 0x06]).conn = .opened ∧
    (openState .handshake [0x41, 0x06]).mode ≠ .unconfigured ∧
    (openState .handshake [0x41, 0x06]).par.ioErrors = false ∧
    (openState .handshake [0x41, 0x06]).rxq = 0x41 :: [0x06] ∧
    (openState .streaming []).running ∧ (openState .handshake []).running ∧
    (openState .unconfigured [0x41]).running ∧ closedState.running := by decide

theorem witness_flush :
    (openState .unconfigured [0x41]).running ∧ (openState .unconfigured [0x41]).carries fullArg.arg ∧
    (openState .unconfigured [0x41]).conn = .opened ∧
    closedState.running ∧ closedState.carries fullArg.arg ∧ closedState.conn = .closed := by decide

/-- A next state that changes: a WRITE that grows TXLOG, a READ that takes the head. -/
theorem witness_writers :
    exec (.write (argOf [0x01])) (openState .handshake []) =
      .next (((openState .handshake []).drawn.txAppend [0x01]).respond okRsp) ∧
    exec (.read noArgs) (openState .handshake [0x41, 0x06]) =
      .next ((openState .handshake [0x41, 0x06]).drawn.rxPop.respond (okRsp (opt := some 0x41))) :=
  ⟨rfl, rfl⟩

/-- Steps of each kind: a WRITE, a reset, an arrival. -/
theorem witness_steps :
    step (atBlock (pending (openState .handshake []) 0x24 (argOf [0x01]))) =
      .next (((pending (openState .handshake []) 0x24 (argOf [0x01])).drawn.txAppend [0x01]).respond
        okRsp) ∧
    step { openState .handshake [] with txlog := [0x01], sched := [.reset] } = .next closedState ∧
    step { openState .handshake [0x41] with sched := [.device 0x42] } =
      .next (openState .handshake [0x41, 0x42]) := ⟨rfl, rfl, rfl⟩

/-- Two bytes with room for exactly two. -/
theorem witness_arrivals_in_order :
    let s : State := { openState .streaming [] with
      par := { vecPar with rxCap := some 2 }, sched := [.device 0x41, .device 0x42, .block] }
    s.running ∧ s.conn = .opened ∧ s.mode ≠ .unconfigured ∧
    (∀ cap, s.par.rxCap = some cap → s.rxq.length + ([0x41, 0x42] : Bytes).length ≤ cap) ∧
    s.sched = ([0x41, 0x42] : Bytes).map .device ++ [.block] := by
  refine ⟨rfl, rfl, by decide, fun cap h => ?_, rfl⟩
  cases h
  decide

theorem witness_streaming_read :
    (openState .streaming [0x00]).mode = .streaming ∧ (openState .streaming [0x00]).running ∧
    exec (.read noArgs) (openState .streaming [0x00]) =
      .next ((openState .streaming [0x00]).drawn.rxPop.respond (okRsp (opt := some 0x00))) ∧
    exec (.read noArgs) (openState .streaming []) =
      .next ((openState .streaming []).drawn.holdOn .untilByte) :=
  ⟨rfl, rfl, rfl, rfl⟩

/-- What the first state and the one after it show of the turns of two steps. -/
theorem block_turns_of_two {s : State} (h0 : s.nextTurn = .block)
    (h1 : (nextOf (run 1 s)).map State.nextTurn = some .block) :
    ∀ (k : Nat) (t : State), k < 2 → run k s = .next t → t.nextTurn = .block := by
  intro k t hk h
  match k, hk with
  | 0, _ => cases h; exact h0
  | 1, _ => simpa [h, nextOf] using h1

/-- A READ on an empty queue: held in Streaming mode, not yet held there, and held in Handshake mode with
exactly the two turns of its wait left and with one more. -/
theorem witness_held_reads :
    ∀ x ∈ [(Mode.streaming, some Hold.untilByte), (.streaming, none),
      (.handshake, some (.untilByteOrTimer (2 + 0))), (.handshake, some (.untilByteOrTimer (2 + 1)))],
      let s : State := { pending (openState x.1 []) 0x25 noArgs with
        hold := x.2, sched := [.block, .block] }
      (s.running ∧ s.carries noArgs.arg ∧ s.conn = .opened ∧ s.mode = x.1 ∧ s.hold = x.2 ∧
        s.rxq = [] ∧ s.par.ioErrors = false ∧ s.port = some ⟨0x25, noArgs⟩ ∧
        decodeCommand ⟨0x25, noArgs⟩ = .instr (.read noArgs)) ∧
      ∀ (k : Nat) (t : State), k < 2 → run k s = .next t → t.nextTurn = .block := by
  have h : ∀ x ∈ [(Mode.streaming, some Hold.untilByte), (.streaming, none),
      (.handshake, some (.untilByteOrTimer (2 + 0))), (.handshake, some (.untilByteOrTimer (2 + 1)))],
      let s : State := { pending (openState x.1 []) 0x25 noArgs with
        hold := x.2, sched := [.block, .block] }
      (s.running ∧ s.carries noArgs.arg ∧ s.conn = .opened ∧ s.mode = x.1 ∧ s.hold = x.2 ∧
        s.rxq = [] ∧ s.par.ioErrors = false ∧ s.port = some ⟨0x25, noArgs⟩ ∧
        decodeCommand ⟨0x25, noArgs⟩ = .instr (.read noArgs)) ∧
      s.nextTurn = .block ∧ (nextOf (run 1 s)).map State.nextTurn = some .block := by decide
  exact fun x hx => ⟨(h x hx).1, block_turns_of_two (h x hx).2.1 (h x hx).2.2⟩

/-- A Handshake READ at the port, and five turns with two arrivals and room for exactly these. -/
theorem witness_handshake_read :
    let s : State := { pending (openState .handshake []) 0x25 noArgs with
      par := { vecPar with rxCap := some 2 } }
    let q : List Turn := [.block, .device 0x41, .block, .device 0x42, .block]
    s.running ∧ s.carries noArgs.arg ∧ s.conn = .opened ∧ s.mode = .handshake ∧
    s.port = some ⟨0x25, noArgs⟩ ∧ decodeCommand ⟨0x25, noArgs⟩ = .instr (.read noArgs) ∧
    3 ≤ q.count .block ∧ .reset ∉ q ∧
    (∀ cap, s.par.rxCap = some cap →
      s.rxq.length + (q.filter fun u => u ≠ .block).length ≤ cap) := by
  refine ⟨rfl, by decide, rfl, rfl, rfl, rfl, by decide, by decide, fun cap h => ?_⟩
  cases h
  decide

theorem witness_boot :
    closedState.running ∧ closedState.conn = .closed ∧ closedState.par.endpoints.has noArgs.ep = true ∧
    closedState.par.devErrors = false ∧ closedState.par.ioErrors = false ∧
    closedState.carries noArgs.arg ∧ closedState.carries fullArg.arg := by decide

theorem witness_host_statement :
    let s : State := { atBlock closedState with host := HostState.start [.count 0 3, .dec 0 1] }
    s.atBlockTurn ∧ s.port = none ∧ s.abandoned = false ∧
    hostMove s.rsp s.host =
      .move { prog := [.count 0 3, .dec 0 1], rest := [.dec 0 1], counters := [(0, 3)]
              outcome := none } ∧
    ({ s.host with counters := [(0, 3)] } : HostState).counter 0 = 2 + 1 ∧
    hostMove closedState.rsp closedState.host = .idle ∧
    ({ closedState with abandoned := true } : State).abandoned = true ∧
    HostOp.label 1 ∉ [HostOp.count 0 3, .label 0] ∧
    hostMove none { HostState.start ([.count 0 3, .label 0] ++ [.label 1, .dec 0 1]) with
        rest := [.jump 1] } =
      .move { HostState.start [.count 0 3, .label 0, .label 1, .dec 0 1] with rest := [.dec 0 1] } :=
  ⟨rfl, rfl, rfl, rfl, rfl, rfl, rfl, by decide, rfl⟩

/-- Program P5 and then a reset: CLOSE was never answered, so the run is not over; beside it a run that
is over. -/
theorem witness_cut_off :
    let s : State := { pending (haltedState 0x05) 0x21 noArgs with sched := [.reset, .block] }
    s.port = some ⟨0x21, noArgs⟩ ∧ s.nextTurn = .reset ∧
    run 2 s = .next { closedState with abandoned := true } ∧
    ¬ ({ closedState with abandoned := true } : State).runOver ∧
    closedState.runOver ∧ (haltedState 0x05).fault ≠ 0x00 ∧ s.port ≠ none :=
  ⟨rfl, rfl, rfl, by decide, by decide, by decide, by decide⟩

theorem witness_blocks : 0 < blockCount 1 ∧ 1 < blockCount 17 := by decide

end Sys2Proof.Tests
end

section
/-! SUPPORT. The scope family: the host issues its next command and the block tries it in one step
(00_scope.md R5). -/

namespace Sys2Proof.Machine

/-- A command whose OPC is illegal is answered by the illegal-command rule. -/
theorem runCommand_of_reject {c : Cmd} {e : Reject} (h : decodeCommand c = .reject e)
    (s : State) : runCommand c s = illegalCommand s := by
  simp [runCommand, h]

/-- In a running block an illegal command raises ILLEGAL_OP (R76). -/
theorem illegalCommand_of_running {s : State} (h : s.running) :
    illegalCommand s = .next (s.raise .illegalOp) :=
  whenRunning_of_running h _

/-- In a halted block an illegal command has no effect (R219). -/
theorem illegalCommand_of_halted {s : State} (h : s.haltedByFault) : illegalCommand s = .next s :=
  whenRunning_of_halted h _

/-- A fault answered to a command issued to an empty port leaves the port empty, as it was. -/
theorem State.raise_issue {s : State} (hport : s.port = none) (c : Cmd) (k : HostState)
    (f : FaultCode) :
    (s.issue c k).raise f =
      { s with fault := f.code, rsp := some (faultRsp f), hold := none, host := k } := by
  simp [State.raise, State.respond, State.issue, hport]

/-- A command next in the program, behind any labels and delays, is the host's move. -/
theorem hostMove_of_command {h : HostState} {opc : Byte} {ep : Nat} {a : ByteExpr} {x : OptExpr}
    {r : List HostOp} (hrest : skipNoStep h.rest = .command opc ep a x :: r) (rsp : Option Rsp) :
    hostMove rsp h =
      .issue ⟨opc, ⟨ep, evalBytes rsp a, evalOpt rsp x⟩⟩ { h with rest := r } := by
  simp [hostMove, hrest]

/-- With no command pending, the command the host issues is tried in the same turn. -/
theorem blockTurn_of_issue {s : State} {c : Cmd} {k : HostState} (hport : s.port = none)
    (hab : s.abandoned = false) (hmove : hostMove s.rsp s.host = .issue c k) :
    blockTurn s = runCommand c (s.issue c k) := by
  simp [blockTurn, hport, hab, hmove]

/-- With no command pending, a step at the block's turn issues the host's next command and tries it. -/
theorem step_of_hostCommand {s : State} {opc : Byte} {ep : Nat} {a : ByteExpr} {x : OptExpr}
    {r : List HostOp} (hturn : s.atBlockTurn) (hport : s.port = none) (hab : s.abandoned = false)
    (hrest : skipNoStep s.host.rest = .command opc ep a x :: r) :
    step s = runCommand ⟨opc, ⟨ep, evalBytes s.rsp a, evalOpt s.rsp x⟩⟩
      (s.turnTaken.issue ⟨opc, ⟨ep, evalBytes s.rsp a, evalOpt s.rsp x⟩⟩
        { s.host with rest := r }) :=
  (step_of_atBlockTurn hturn).trans
    (blockTurn_of_issue hport hab (hostMove_of_command hrest s.rsp))

/-- Settles O8: the step tries the issued command (`step_of_hostCommand`); a legal one is `exec` of what
it decodes to, an illegal one passes the halt check first. -/
theorem stepIssuesTheHostsCommand : Obligations.StepIssuesTheHostsCommand := by
  intro s opc ep a x r hturn hport hab hrest
  have hstep := step_of_hostCommand hturn hport hab hrest
  refine ⟨fun i hdec => ?legal, fun e hdec => ⟨fun hrun => ?running, fun hhalt => ?halted⟩⟩
  case legal => exact hstep.trans (runCommand_of_decode hdec _)
  case running =>
    rw [hstep, runCommand_of_reject hdec, illegalCommand_of_running (by exact hrun),
      State.raise_issue (by exact hport)]
    rfl
  case halted =>
    rw [hstep, runCommand_of_reject hdec]
    exact illegalCommand_of_halted hhalt

end Sys2Proof.Machine
end

section
/-! SUPPORT. The state family, first part: what each instruction's own rule writes and what it leaves
unchanged (10_state.md R37). -/

namespace Sys2Proof.Machine

/-! ### The instructions by what they may write -/

/-- A case split over the instructions: the six of the serial mux by name, and all the others, which
only answer, in one case. -/
theorem instr_mux_or_other {motive : Instr → Prop}
    (openConn : ∀ o, motive (.openConn o)) (closeConn : ∀ o, motive (.closeConn o))
    (cfg : ∀ m o, motive (.cfg m o)) (write : ∀ o, motive (.write o))
    (read : ∀ o, motive (.read o)) (flush : ∀ o, motive (.flush o))
    (other : ∀ i, i.isMux = false → motive i) (i : Instr) : motive i := by
  cases i
  case openConn o => exact openConn o
  case closeConn o => exact closeConn o
  case cfg m o => exact cfg m o
  case write o => exact write o
  case read o => exact read o
  case flush o => exact flush o
  all_goals exact other _ rfl

/-- An instruction outside the serial mux answers, or raises BAD_LENGTH, and does nothing else. -/
theorem ruleState_of_not_mux {i : Instr} (h : i.isMux = false) (s : State) :
    (∃ r, ruleState i s = s.respond r) ∨ ruleState i s = s.raise .badLength := by
  cases i
  case buildData o =>
    rcases buildDataRule_cases s o.arg with ⟨-, ht⟩ | ⟨-, ht⟩
    · exact .inr ht
    · exact .inl ⟨_, ht⟩
  case openConn | closeConn | cfg | write | read | flush => cases h
  all_goals exact .inl ⟨_, rfl⟩

/-! ### What no instruction writes -/

/-- The fields of the machine that no instruction writes: the parameters, the schedule and the host. -/
def State.surroundings (s : State) :
    Config.Params × List Turn × Nat × HostState × Bool :=
  (s.par, s.sched, s.stretches, s.host, s.abandoned)

@[simp] theorem State.respond_surroundings (s : State) (r : Rsp) :
    (s.respond r).surroundings = s.surroundings := rfl
@[simp] theorem State.raise_surroundings (s : State) (f : FaultCode) :
    (s.raise f).surroundings = s.surroundings := rfl
@[simp] theorem State.drawn_surroundings (s : State) : s.drawn.surroundings = s.surroundings := rfl
@[simp] theorem State.openTo_surroundings (s : State) (e : Nat) :
    (s.openTo e).surroundings = s.surroundings := rfl
@[simp] theorem State.release_surroundings (s : State) :
    s.release.surroundings = s.surroundings := rfl
@[simp] theorem State.setMode_surroundings (s : State) (m : Mode) :
    (s.setMode m).surroundings = s.surroundings := rfl
@[simp] theorem State.flushRx_surroundings (s : State) :
    s.flushRx.surroundings = s.surroundings := rfl
@[simp] theorem State.rxPop_surroundings (s : State) : s.rxPop.surroundings = s.surroundings := rfl
@[simp] theorem State.txAppend_surroundings (s : State) (b : Bytes) :
    (s.txAppend b).surroundings = s.surroundings := rfl
@[simp] theorem State.holdOn_surroundings (s : State) (h : Hold) :
    (s.holdOn h).surroundings = s.surroundings := rfl

/-! ### What each rule of the serial mux writes -/

/-- OPEN leaves the connection as it is, or opens it to its endpoint with MODE and RXQ fresh (R122). -/
theorem openRule_writes (s : State) (e : Nat) :
    (openRule s e).txlog = s.txlog ∧ (openRule s e).surroundings = s.surroundings ∧
    (((openRule s e).conn = s.conn ∧ (openRule s e).ep = s.ep ∧ (openRule s e).mode = s.mode ∧
        (openRule s e).rxq = s.rxq) ∨
      ((openRule s e).conn = .opened ∧ (openRule s e).ep = some e ∧
        (openRule s e).mode = .unconfigured ∧ (openRule s e).rxq = [])) := by
  rcases openRule_cases s e with ⟨-, h⟩ | ⟨-, -, h⟩ | ⟨-, -, -, h⟩ | ⟨-, -, -, h⟩ <;> simp [h]

/-- Of the elements here, CFG writes MODE only (R127). -/
theorem cfgRule_writes (s : State) (m : Bool) :
    (cfgRule s m).conn = s.conn ∧ (cfgRule s m).ep = s.ep ∧ (cfgRule s m).rxq = s.rxq ∧
    (cfgRule s m).txlog = s.txlog ∧ (cfgRule s m).surroundings = s.surroundings := by
  rcases cfgRule_cases s m with ⟨-, h⟩ | ⟨-, -, h⟩ | ⟨-, -, h⟩ <;> simp [h]

/-- A failed WRITE sends its ARG up to some byte (R128). -/
theorem sentPrefix_isPrefix (s : State) (arg : Bytes) : sentPrefix s arg <+: arg :=
  List.take_prefix _ _

/-- Of the elements here, WRITE writes TXLOG only, if it writes at all, by an initial part of its ARG
(R128). -/
theorem writeRule_writes (s : State) (arg : Bytes) :
    (writeRule s arg).conn = s.conn ∧ (writeRule s arg).ep = s.ep ∧
    (writeRule s arg).mode = s.mode ∧ (writeRule s arg).rxq = s.rxq ∧
    (writeRule s arg).surroundings = s.surroundings ∧
    ((writeRule s arg).txlog = s.txlog ∨ ∃ x, x <+: arg ∧ (writeRule s arg).txlog = s.txlog ++ x) := by
  rcases writeRule_cases s arg with ⟨-, h⟩ | ⟨-, -, h⟩ | ⟨-, -, -, h⟩ | ⟨-, -, -, h⟩ <;>
    simp [h, sentPrefix_isPrefix]

/-- A READ that finds RXQ empty writes none of the elements here (R130). -/
theorem readEmpty_writes (s : State) :
    (readEmpty s).conn = s.conn ∧ (readEmpty s).ep = s.ep ∧ (readEmpty s).mode = s.mode ∧
    (readEmpty s).rxq = s.rxq ∧ (readEmpty s).txlog = s.txlog ∧
    (readEmpty s).surroundings = s.surroundings := by
  rcases readEmpty_cases s with ⟨-, -, h⟩ | ⟨k, -, -, h⟩ | ⟨-, h⟩ <;> simp [h]

/-- Of the elements here, READ writes RXQ only, at its head (R130). -/
theorem readRule_writes (s : State) :
    (readRule s).conn = s.conn ∧ (readRule s).ep = s.ep ∧ (readRule s).mode = s.mode ∧
    (readRule s).txlog = s.txlog ∧ (readRule s).surroundings = s.surroundings ∧
    ((readRule s).rxq = s.rxq ∨ (readRule s).rxq = s.rxq.drop 1) := by
  rcases readRule_cases s with ⟨-, h⟩ | ⟨-, -, h⟩ | ⟨-, -, -, -, h⟩ | ⟨k, -, -, -, -, h⟩ |
    ⟨-, -, -, -, h⟩ | ⟨v, q, -, -, -, -, -, h⟩ | ⟨-, -, -, -, -, h⟩
  case inr.inr.inr.inr.inl => cases hd : readDrops s <;> simp [h, hd]
  case inr.inr.inr.inr.inr.inr => simp [h, readEmpty_writes]
  all_goals simp [h]

/-- Of the elements here, FLUSH writes RXQ only, and empties it (R132). -/
theorem flushRule_writes (s : State) :
    (flushRule s).conn = s.conn ∧ (flushRule s).ep = s.ep ∧ (flushRule s).mode = s.mode ∧
    (flushRule s).txlog = s.txlog ∧ (flushRule s).surroundings = s.surroundings ∧
    ((flushRule s).rxq = s.rxq ∨ (flushRule s).rxq = []) := by
  rcases flushRule_cases s with ⟨-, h⟩ | ⟨-, h⟩ <;> simp [h]

/-- No instruction's own rule writes the parameters, the schedule or the host. -/
theorem ruleState_surroundings (i : Instr) (s : State) :
    (ruleState i s).surroundings = s.surroundings := by
  cases i using instr_mux_or_other with
  | openConn o => simp [ruleState, openRule_writes]
  | closeConn o => rfl
  | cfg m o => simp [ruleState, cfgRule_writes]
  | write o => simp [ruleState, writeRule_writes]
  | read o => simp [ruleState, readRule_writes]
  | flush o => simp [ruleState, flushRule_writes]
  | other i hi => rcases ruleState_of_not_mux hi s with ⟨r, h⟩ | h <;> simp [h]

/-- No instruction writes the parameters, the schedule or the host. -/
theorem exec_surroundings {i : Instr} {s t : State} (h : exec i s = .next t) :
    t.surroundings = s.surroundings := by
  rcases exec_next h with ⟨-, -, rfl⟩ | ⟨-, -, rfl⟩ | ⟨-, rfl⟩
  · exact ruleState_surroundings i s
  · rfl
  · rfl

end Sys2Proof.Machine
end

section
/-! SUPPORT. The state family, second part: each element of the state has its writers (10_state.md R37). -/

namespace Sys2Proof.Machine

/-- `t` differs from `s` in the elements of the block at most where the instruction `i` is a writer of
the element, and then as that writer writes it (R24, R25, R26, R30, R31; log 20). FAULT is left out. -/
structure WrittenBy (i : Instr) (s t : State) : Prop where
  conn : t.conn = s.conn ∨ (∃ o, i = .openConn o ∧ t.conn = .opened) ∨
    (∃ o, i = .closeConn o ∧ t.conn = .closed)
  ep : t.ep = s.ep ∨ (∃ o, i = .openConn o ∧ t.ep = some o.ep) ∨
    (∃ o, i = .closeConn o ∧ t.ep = none)
  mode : t.mode = s.mode ∨ (∃ o, (i = .openConn o ∨ i = .closeConn o) ∧ t.mode = .unconfigured) ∨
    (∃ m o, i = .cfg m o)
  rxq : t.rxq = s.rxq ∨
    (∃ o, (i = .openConn o ∨ i = .closeConn o ∨ i = .flush o) ∧ t.rxq = []) ∨
    (∃ o, i = .read o ∧ t.rxq = s.rxq.drop 1)
  txlog : t.txlog = s.txlog ∨ ∃ o x, i = .write o ∧ x <+: o.arg ∧ t.txlog = s.txlog ++ x

/-- What is unchanged needs no writer. -/
theorem WrittenBy.of_unchanged (i : Instr) {s t : State} (hconn : t.conn = s.conn) (hep : t.ep = s.ep)
    (hmode : t.mode = s.mode) (hrxq : t.rxq = s.rxq) (htxlog : t.txlog = s.txlog) :
    WrittenBy i s t :=
  ⟨.inl hconn, .inl hep, .inl hmode, .inl hrxq, .inl htxlog⟩

/-- Each instruction's own rule writes only the elements it is a writer of. -/
theorem ruleState_writtenBy (i : Instr) (s : State) : WrittenBy i s (ruleState i s) := by
  cases i using instr_mux_or_other with
  | openConn o =>
    obtain ⟨htxlog, -, ⟨hconn, hep, hmode, hrxq⟩ | ⟨hconn, hep, hmode, hrxq⟩⟩ :=
      openRule_writes s o.ep
    · exact .of_unchanged _ hconn hep hmode hrxq htxlog
    · exact ⟨.inr (.inl ⟨o, rfl, hconn⟩), .inr (.inl ⟨o, rfl, hep⟩),
        .inr (.inl ⟨o, .inl rfl, hmode⟩), .inr (.inl ⟨o, .inl rfl, hrxq⟩), .inl htxlog⟩
  | closeConn o =>
    exact ⟨.inr (.inr ⟨o, rfl, rfl⟩), .inr (.inr ⟨o, rfl, rfl⟩), .inr (.inl ⟨o, .inr rfl, rfl⟩),
      .inr (.inl ⟨o, .inr (.inl rfl), rfl⟩), .inl rfl⟩
  | cfg m o =>
    obtain ⟨hconn, hep, hrxq, htxlog, -⟩ := cfgRule_writes s m
    exact ⟨.inl hconn, .inl hep, .inr (.inr ⟨m, o, rfl⟩), .inl hrxq, .inl htxlog⟩
  | write o =>
    obtain ⟨hconn, hep, hmode, hrxq, -, htxlog⟩ := writeRule_writes s o.arg
    exact ⟨.inl hconn, .inl hep, .inl hmode, .inl hrxq,
      htxlog.imp_right fun ⟨x, hx, ht⟩ => ⟨o, x, rfl, hx, ht⟩⟩
  | read o =>
    obtain ⟨hconn, hep, hmode, htxlog, -, hrxq⟩ := readRule_writes s
    exact ⟨.inl hconn, .inl hep, .inl hmode, hrxq.imp_right fun hq => .inr ⟨o, rfl, hq⟩,
      .inl htxlog⟩
  | flush o =>
    obtain ⟨hconn, hep, hmode, htxlog, -, hrxq⟩ := flushRule_writes s
    exact ⟨.inl hconn, .inl hep, .inl hmode,
      hrxq.imp_right fun hq => .inl ⟨o, .inr (.inr rfl), hq⟩, .inl htxlog⟩
  | other i hi =>
    rcases ruleState_of_not_mux hi s with ⟨r, h⟩ | h <;> rw [h] <;>
      exact .of_unchanged i rfl rfl rfl rfl rfl

/-- An instruction writes only the elements it is a writer of; one that faults or meets a halted block
writes none of them. -/
theorem exec_writtenBy {i : Instr} {s t : State} (h : exec i s = .next t) : WrittenBy i s t := by
  rcases exec_next h with ⟨-, -, rfl⟩ | ⟨-, -, rfl⟩ | ⟨-, rfl⟩
  · exact ruleState_writtenBy i s
  · exact .of_unchanged i rfl rfl rfl rfl rfl
  · exact .of_unchanged i rfl rfl rfl rfl rfl

/-- Settles O48: the elements by `exec_writtenBy`, everything outside the block by
`exec_surroundings`. -/
theorem elementsHaveTheirWriters : Obligations.ElementsHaveTheirWriters := by
  intro i s t h
  obtain ⟨hconn, hep, hmode, hrxq, htxlog⟩ := exec_writtenBy h
  have hout := exec_surroundings h
  simp only [State.surroundings, Prod.mk.injEq] at hout
  exact ⟨hconn, hep, hmode, hrxq, htxlog, hout⟩

end Sys2Proof.Machine
end

section
/-! SUPPORT. The state family, third part: the invariant at reset and along every step (10_state.md R38,
R39). -/

namespace Sys2Proof.Machine

/-! ### The invariant taken apart -/

/-- The invariant but for its clause about a held READ: what holds between the operations of a rule,
before the command is answered or held. -/
structure State.ElementsInv (s : State) : Prop where
  closedFresh : s.conn = .closed → s.mode = .unconfigured ∧ s.rxq = []
  epMatches : s.epMatchesConn
  withinCap : s.rxWithinCap
  faultKnown : s.fault.toNat ≤ 7
  parWf : s.par.wf

theorem State.inv_iff (s : State) : s.Inv ↔ s.ElementsInv ∧ s.holdIsARead :=
  ⟨fun ⟨hclosed, hep, hcap, hfault, hpar, hhold⟩ => ⟨⟨hclosed, hep, hcap, hfault, hpar⟩, hhold⟩,
    fun ⟨⟨hclosed, hep, hcap, hfault, hpar⟩, hhold⟩ => ⟨hclosed, hep, hcap, hfault, hpar, hhold⟩⟩

theorem State.rxWithinCap_iff (s : State) :
    s.rxWithinCap ↔ ∀ cap, s.par.rxCap = some cap → s.rxq.length ≤ cap := by
  unfold State.rxWithinCap
  cases s.par.rxCap <;> simp

/-- An empty queue is within any capacity. -/
theorem State.rxWithinCap_of_nil {s : State} (h : s.rxq = []) : s.rxWithinCap :=
  s.rxWithinCap_iff.2 fun cap _ => by simp [h]

/-- A queue that is not full has room for a byte. -/
theorem length_lt_of_not_rxFull {s : State} {cap : Nat} (h : rxFull s = false)
    (hcap : s.par.rxCap = some cap) : s.rxq.length < cap := by
  simpa [rxFull, hcap] using h

theorem State.holdIsARead_iff (s : State) :
    s.holdIsARead ↔ s.hold = none ∨ ∃ c, s.port = some c ∧ c.opc = 0x25 ∧
      ((s.hold = some .untilByte ∧ s.mode = .streaming) ∨
        ∃ k, s.hold = some (.untilByteOrTimer k) ∧ s.mode = .handshake) := by
  unfold State.holdIsARead
  rcases s.hold with _ | _ | k <;> cases s.port <;> simp

/-- Nothing is held: the invariant asks no more of the port. -/
theorem State.holdIsARead_of_none {s : State} (h : s.hold = none) : s.holdIsARead :=
  s.holdIsARead_iff.2 (.inl h)

/-- Nothing is held without a command at the port. -/
theorem State.hold_of_port_none {s : State} (h : s.holdIsARead) (hp : s.port = none) :
    s.hold = none := by
  rcases s.holdIsARead_iff.1 h with h | ⟨c, hc, -⟩
  · exact h
  · simp [hp] at hc

/-- The codes of the faults are those of R32, none reserved. -/
theorem FaultCode.code_le (f : FaultCode) : f.code.toNat ≤ 7 := by
  cases f <;> decide

/-! ### What each operation keeps -/

namespace State.ElementsInv

variable {s : State}

theorem respond (h : s.ElementsInv) (r : Rsp) : (s.respond r).ElementsInv := { h with }

theorem raise (h : s.ElementsInv) (f : FaultCode) : (s.raise f).ElementsInv :=
  { h with faultKnown := f.code_le }

theorem raiseInArrival (h : s.ElementsInv) (f : FaultCode) : (s.raiseInArrival f).ElementsInv :=
  { h with faultKnown := f.code_le }

theorem drawn (h : s.ElementsInv) : s.drawn.ElementsInv := { h with }

theorem openTo (h : s.ElementsInv) {e : Nat} (he : s.par.endpoints.has e = true) :
    (s.openTo e).ElementsInv :=
  { h with closedFresh := nofun, epMatches := he, withinCap := rxWithinCap_of_nil rfl }

theorem release (h : s.ElementsInv) : s.release.ElementsInv :=
  { h with
    closedFresh := fun _ => ⟨rfl, rfl⟩
    epMatches := trivial
    withinCap := rxWithinCap_of_nil rfl }

theorem setMode (h : s.ElementsInv) (hc : s.conn = .opened) (m : Mode) :
    (s.setMode m).ElementsInv :=
  { h with closedFresh := fun hclosed => by simp [hc] at hclosed }

theorem flushRx (h : s.ElementsInv) : s.flushRx.ElementsInv :=
  { h with
    closedFresh := fun hclosed => ⟨(h.closedFresh hclosed).1, rfl⟩
    withinCap := rxWithinCap_of_nil rfl }

theorem rxPop (h : s.ElementsInv) : s.rxPop.ElementsInv :=
  { h with
    closedFresh := fun hclosed => by
      obtain ⟨hmode, hrxq⟩ := h.closedFresh hclosed
      exact ⟨hmode, by simp [hrxq]⟩
    withinCap := (rxWithinCap_iff _).2 fun cap hcap => by
      have hle := s.rxWithinCap_iff.1 h.withinCap cap hcap
      simp only [rxPop_rxq, List.length_drop]
      omega }

theorem txAppend (h : s.ElementsInv) (b : Bytes) : (s.txAppend b).ElementsInv := { h with }

theorem enqueue (h : s.ElementsInv) (hc : s.conn = .opened) (hroom : rxFull s = false) (v : Byte) :
    (s.enqueue v).ElementsInv :=
  { h with
    closedFresh := fun hclosed => by simp [hc] at hclosed
    withinCap := (rxWithinCap_iff _).2 fun cap hcap => by
      simpa using length_lt_of_not_rxFull hroom hcap }

theorem holdOn (h : s.ElementsInv) (x : Hold) : (s.holdOn x).ElementsInv := { h with }

theorem issue (h : s.ElementsInv) (c : Cmd) (k : HostState) : (s.issue c k).ElementsInv :=
  { h with }

/-! ### What each rule keeps -/

theorem openRule (h : s.ElementsInv) (e : Nat) : (openRule s e).ElementsInv := by
  rcases openRule_cases s e with ⟨-, ht⟩ | ⟨-, -, ht⟩ | ⟨-, -, -, ht⟩ | ⟨-, he, -, ht⟩ <;> rw [ht]
  · exact h.raise _
  · exact h.respond _
  · exact h.drawn.respond _
  · exact (h.drawn.openTo he).respond _

theorem cfgRule (h : s.ElementsInv) (m : Bool) : (cfgRule s m).ElementsInv := by
  rcases cfgRule_cases s m with ⟨-, ht⟩ | ⟨hc, -, ht⟩ | ⟨hc, -, ht⟩ <;> rw [ht]
  · exact h.raise _
  · exact (h.drawn.setMode hc _).respond _
  · exact (h.drawn.setMode hc _).respond _

theorem writeRule (h : s.ElementsInv) (arg : Bytes) : (writeRule s arg).ElementsInv := by
  rcases writeRule_cases s arg with ⟨-, ht⟩ | ⟨-, -, ht⟩ | ⟨-, -, -, ht⟩ | ⟨-, -, -, ht⟩ <;> rw [ht]
  · exact h.raise _
  · exact h.raise _
  · exact (h.drawn.txAppend _).respond _
  · exact (h.drawn.txAppend _).respond _

theorem readEmpty (h : s.ElementsInv) : (readEmpty s).ElementsInv := by
  rcases readEmpty_cases s with ⟨-, -, ht⟩ | ⟨k, -, -, ht⟩ | ⟨-, ht⟩ <;> rw [ht]
  · exact h.drawn.respond _
  · exact h.drawn.holdOn _
  · exact h.drawn.holdOn _

theorem readRule (h : s.ElementsInv) : (readRule s).ElementsInv := by
  rcases readRule_cases s with ⟨-, ht⟩ | ⟨-, -, ht⟩ | ⟨-, -, -, -, ht⟩ | ⟨k, -, -, -, -, ht⟩ |
    ⟨-, -, -, -, ht⟩ | ⟨v, q, -, -, -, -, -, ht⟩ | ⟨-, -, -, -, -, ht⟩ <;> rw [ht]
  · exact h.raise _
  · exact h.raise _
  · exact h
  · exact h.holdOn _
  · split
    · exact h.drawn.rxPop.respond _
    · exact h.drawn.respond _
  · exact h.drawn.rxPop.respond _
  · exact h.readEmpty

theorem flushRule (h : s.ElementsInv) : (flushRule s).ElementsInv := by
  rcases flushRule_cases s with ⟨-, ht⟩ | ⟨-, ht⟩ <;> rw [ht]
  · exact h.raise _
  · exact h.flushRx.respond _

theorem ruleState (h : s.ElementsInv) (i : Instr) : (ruleState i s).ElementsInv := by
  cases i using instr_mux_or_other with
  | openConn o => exact h.openRule o.ep
  | closeConn o => exact h.release.respond _
  | cfg m o => exact h.cfgRule m
  | write o => exact h.writeRule o.arg
  | read o => exact h.readRule
  | flush o => exact h.flushRule
  | other i hi =>
    rcases ruleState_of_not_mux hi s with ⟨r, ht⟩ | ht <;> rw [ht]
    · exact h.respond r
    · exact h.raise _

theorem receive (h : s.ElementsInv) (hc : s.conn = .opened) (v : Byte) :
    (s.receive v).ElementsInv := by
  rcases receive_cases s v with ⟨-, ht⟩ | ⟨hroom, ht⟩ <;> rw [ht]
  · exact h.raiseInArrival _
  · exact h.enqueue hc hroom v

theorem arrival (h : s.ElementsInv) (v : Byte) : (s.arrival v).ElementsInv := by
  rcases arrival_cases s v with ⟨-, ht⟩ | ⟨hc, -, ht⟩ | ⟨hc, -, ht⟩ <;> rw [ht]
  · exact h
  · exact h.drawn.receive hc _
  · exact h.receive hc v

end State.ElementsInv

/-! ### What may be held -/

/-- The mode of a configured line that is not Handshake. -/
theorem Mode.eq_streaming {m : Mode} (hconf : m ≠ .unconfigured) (hhs : m ≠ .handshake) :
    m = .streaming := by
  cases m with
  | unconfigured => exact absurd rfl hconf
  | handshake => exact absurd rfl hhs
  | streaming => rfl

/-- A READ that finds RXQ empty holds, if it holds, in the mode its hold belongs to (R129, R130). -/
theorem readEmpty_holdIsARead {s : State} {c : Cmd} (hp : s.port = some c) (hop : c.opc = 0x25)
    (hm : s.mode ≠ .unconfigured) : (readEmpty s).holdIsARead := by
  rcases readEmpty_cases s with ⟨-, -, ht⟩ | ⟨k, hhs, -, ht⟩ | ⟨hhs, ht⟩ <;> rw [ht]
  · exact State.holdIsARead_of_none rfl
  · exact (State.holdIsARead_iff _).2 (.inr ⟨c, hp, hop, .inr ⟨k, rfl, hhs⟩⟩)
  · exact (State.holdIsARead_iff _).2 (.inr ⟨c, hp, hop, .inl ⟨rfl, Mode.eq_streaming hm hhs⟩⟩)

/-- A READ at the port that goes on holding does so as it held; one that begins to hold does so in the
mode its hold belongs to. -/
theorem readRule_holdIsARead {s : State} {c : Cmd} (h : s.holdIsARead) (hp : s.port = some c)
    (hop : c.opc = 0x25) : (readRule s).holdIsARead := by
  rcases readRule_cases s with ⟨-, ht⟩ | ⟨-, -, ht⟩ | ⟨-, -, -, -, ht⟩ | ⟨k, -, -, hhs, -, ht⟩ |
    ⟨-, -, -, -, ht⟩ | ⟨v, q, -, -, -, -, -, ht⟩ | ⟨-, hm, -, -, -, ht⟩ <;> rw [ht]
  case inr.inr.inl => exact h
  case inr.inr.inr.inl =>
    exact (State.holdIsARead_iff _).2 (.inr ⟨c, hp, hop, .inr ⟨k, rfl, hhs⟩⟩)
  case inr.inr.inr.inr.inr.inr => exact readEmpty_holdIsARead hp hop hm
  all_goals exact State.holdIsARead_of_none rfl

/-- No instruction but READ leaves anything held (42_transport.md R142). -/
theorem ruleState_hold_of_not_read {i : Instr} (hi : ∀ o, i ≠ .read o) (s : State) :
    (ruleState i s).hold = none := by
  cases i using instr_mux_or_other with
  | openConn o =>
    rcases openRule_cases s o.ep with ⟨-, h⟩ | ⟨-, -, h⟩ | ⟨-, -, -, h⟩ | ⟨-, -, -, h⟩ <;>
      simp [ruleState, h]
  | closeConn o => rfl
  | cfg m o =>
    rcases cfgRule_cases s m with ⟨-, h⟩ | ⟨-, -, h⟩ | ⟨-, -, h⟩ <;> simp [ruleState, h]
  | write o =>
    rcases writeRule_cases s o.arg with ⟨-, h⟩ | ⟨-, -, h⟩ | ⟨-, -, -, h⟩ | ⟨-, -, -, h⟩ <;>
      simp [ruleState, h]
  | read o => exact absurd rfl (hi o)
  | flush o => rcases flushRule_cases s with ⟨-, h⟩ | ⟨-, h⟩ <;> simp [ruleState, h]
  | other i hi => rcases ruleState_of_not_mux hi s with ⟨r, h⟩ | h <;> simp [h]

/-- A command that decodes to READ has READ's word. -/
theorem opc_of_decode_read {c : Cmd} {o : Operands} (h : decodeCommand c = .instr (.read o)) :
    c.opc = 0x25 := by
  obtain ⟨-, henc⟩ := decodeCommand_instr h
  simp only [encode, Encoded.command.injEq] at henc
  rw [← henc]

/-- The rule of the command at the port leaves a READ held, or nothing. -/
theorem ruleState_holdIsARead {s : State} {c : Cmd} {i : Instr} (h : s.holdIsARead)
    (hp : s.port = some c) (hdec : decodeCommand c = .instr i) : (ruleState i s).holdIsARead := by
  by_cases hread : ∃ o, i = .read o
  · obtain ⟨o, rfl⟩ := hread
    exact readRule_holdIsARead h hp (opc_of_decode_read hdec)
  · exact State.holdIsARead_of_none
      (ruleState_hold_of_not_read (fun o ho => hread ⟨o, ho⟩) s)

/-- A received byte touches neither the port nor MODE nor what is held. -/
theorem receive_holdIsARead {s : State} (h : s.holdIsARead) (v : Byte) :
    (s.receive v).holdIsARead := by
  rcases receive_cases s v with ⟨-, ht⟩ | ⟨-, ht⟩ <;> rw [ht] <;> exact h

/-- An arrival touches neither the port nor MODE nor what is held. -/
theorem arrival_holdIsARead {s : State} (h : s.holdIsARead) (v : Byte) :
    (s.arrival v).holdIsARead := by
  rcases arrival_cases s v with ⟨-, ht⟩ | ⟨-, -, ht⟩ | ⟨-, -, ht⟩ <;> rw [ht]
  · exact h
  · exact receive_holdIsARead (s := s.drawn) h _
  · exact receive_holdIsARead h v

/-! ### What each agent's turn keeps -/

/-- Reset meets the invariant from any state, whatever the parameters within their bounds (R39). -/
theorem State.resetBlock_inv {s : State} (hpar : s.par.wf) : s.resetBlock.Inv :=
  (inv_iff _).2
    ⟨{ closedFresh := fun _ => ⟨rfl, rfl⟩
       epMatches := trivial
       withinCap := rxWithinCap_of_nil rfl
       faultKnown := by simp
       parWf := hpar },
     holdIsARead_of_none rfl⟩

namespace State.Inv

variable {s t : State}

/-- A fault answers the command, so nothing is held after it. -/
theorem raise (h : s.Inv) (f : FaultCode) : (s.raise f).Inv := by
  obtain ⟨helem, -⟩ := s.inv_iff.1 h
  exact (inv_iff _).2 ⟨helem.raise f, holdIsARead_of_none rfl⟩

/-- A command is issued to an empty port, where nothing is held. -/
theorem issue (h : s.Inv) (hp : s.port = none) (c : Cmd) (k : HostState) : (s.issue c k).Inv := by
  obtain ⟨helem, hhold⟩ := s.inv_iff.1 h
  have hnone : s.hold = none := hold_of_port_none hhold hp
  exact (inv_iff _).2 ⟨helem.issue c k, holdIsARead_of_none hnone⟩

/-- Trying the command at the port keeps the invariant. -/
theorem runCommand (h : s.Inv) {c : Cmd} (hp : s.port = some c)
    (hrun : runCommand c s = .next t) : t.Inv := by
  obtain ⟨helem, hhold⟩ := s.inv_iff.1 h
  rcases runCommand_next hrun with ⟨i, hdec, hexec⟩ | ⟨r, -, hill⟩
  · rcases exec_next hexec with ⟨-, -, rfl⟩ | ⟨-, -, rfl⟩ | ⟨-, rfl⟩
    · exact (inv_iff _).2 ⟨helem.ruleState i, ruleState_holdIsARead hhold hp hdec⟩
    · exact h.raise _
    · exact h
  · rcases illegalCommand_next hill with ⟨-, rfl⟩ | ⟨-, rfl⟩
    · exact h.raise _
    · exact h

/-- The turn of the host and the block keeps the invariant. -/
theorem blockTurn (h : s.Inv) (hturn : blockTurn s = .next t) : t.Inv := by
  rcases blockTurn_next hturn with ⟨c, hp, hrun⟩ | ⟨c, k, hp, -, -, hrun⟩ | ⟨k, -, -, -, rfl⟩ |
    ⟨-, -, rfl⟩
  · exact h.runCommand hp hrun
  · exact (h.issue hp c k).runCommand rfl hrun
  · exact h
  · exact h

/-- The device's step keeps the invariant. -/
theorem arrive (h : s.Inv) {v : Byte} (harrive : arrive s v = .next t) : t.Inv := by
  obtain ⟨helem, hhold⟩ := s.inv_iff.1 h
  rcases arrive_next harrive with ⟨-, rfl⟩ | ⟨-, rfl⟩
  · exact (inv_iff _).2 ⟨helem.arrival v, arrival_holdIsARead hhold v⟩
  · exact h

/-- The schedule is no part of the invariant. -/
theorem turnTaken (h : s.Inv) : s.turnTaken.Inv := h

end State.Inv

/-! ### The statements -/

/-- The parameters of the machine as built are within R7's bounds, whatever the unknown ones are. -/
theorem params_wf : Config.params.wf :=
  ⟨Nat.le_add_left 19 _, by simp [Config.params]⟩

/-- Settles O13: the turn is the block's, the device's or a reset, and each keeps the invariant. -/
theorem stepKeepsInvariant : Obligations.StepKeepsInvariant := by
  intro s t hs hstep
  have hturn := hs.turnTaken
  obtain ⟨helem, -⟩ := s.inv_iff.1 hs
  rcases step_next hstep with ⟨-, hblock⟩ | ⟨v, -, harrive⟩ | ⟨-, rfl⟩
  · exact hturn.blockTurn hblock
  · exact hturn.arrive harrive
  · exact State.resetBlock_inv helem.parWf

/-- Settles O11: each element of the reset state is written out in `State.reset`. -/
theorem resetStateValues : Obligations.ResetStateValues := ⟨rfl, rfl, rfl, rfl, rfl, rfl⟩

/-- Settles O12: the reset state is the one reset leads to from itself (`State.resetBlock_inv`). -/
theorem resetStateMeetsInvariant : Obligations.ResetStateMeetsInvariant :=
  State.resetBlock_inv (s := State.reset) params_wf

end Sys2Proof.Machine
end

section
/-! SUPPORT. The memory family: what the turn of each agent does to RXQ (20_memory.md R53, R62,
42_transport.md R137). -/

namespace Sys2Proof.Machine

/-- What a command may do to RXQ: leave it, take its head, or empty it. A command never adds a byte
(42_transport.md R137). -/
def RxqLeftOrTaken (s t : State) : Prop :=
  t.rxq = s.rxq ∨ t.rxq = s.rxq.drop 1 ∨ t.rxq = []

/-- An instruction takes the head of RXQ, as READ does, empties it, as OPEN, CLOSE and FLUSH do, or
leaves it. -/
theorem exec_rxq {i : Instr} {s t : State} (h : exec i s = .next t) : RxqLeftOrTaken s t := by
  rcases (exec_writtenBy h).rxq with hsame | ⟨o, -, hempty⟩ | ⟨o, -, hhead⟩
  · exact .inl hsame
  · exact .inr (.inr hempty)
  · exact .inr (.inl hhead)

/-- An illegal command leaves RXQ, whether it faults or the block is halted. -/
theorem illegalCommand_rxq {s t : State} (h : illegalCommand s = .next t) : t.rxq = s.rxq := by
  rcases illegalCommand_next h with ⟨-, rfl⟩ | ⟨-, rfl⟩ <;> rfl

/-- Trying a command adds nothing to RXQ, be the command legal or not. -/
theorem runCommand_rxq {c : Cmd} {s t : State} (h : runCommand c s = .next t) :
    RxqLeftOrTaken s t := by
  rcases runCommand_next h with ⟨i, -, hexec⟩ | ⟨r, -, hill⟩
  · exact exec_rxq hexec
  · exact .inl (illegalCommand_rxq hill)

/-- At the turn of the host and the block RXQ changes only by the command that is tried; the host's
issuing it and its own statements leave RXQ. -/
theorem blockTurn_rxq {s t : State} (h : blockTurn s = .next t) : RxqLeftOrTaken s t := by
  rcases blockTurn_next h with ⟨c, -, hrun⟩ | ⟨c, k, -, -, -, hrun⟩ | ⟨k, -, -, -, rfl⟩ |
    ⟨-, -, rfl⟩
  · exact runCommand_rxq hrun
  · exact runCommand_rxq (s := s.issue c k) hrun
  · exact .inl rfl
  · exact .inl rfl

/-- A received byte is lost to an overflow or stands at the end of RXQ (R133, R134). -/
theorem receive_rxq (s : State) (v : Byte) :
    (s.receive v).rxq = s.rxq ∨ (s.receive v).rxq = s.rxq ++ [v] := by
  rcases receive_cases s v with ⟨-, ht⟩ | ⟨-, ht⟩ <;> simp [ht]

/-- An arrival leaves RXQ or adds one byte at its end: an arbitrary one while the line is not
configured (R133 to R136). -/
theorem arrival_rxq (s : State) (v : Byte) :
    (s.arrival v).rxq = s.rxq ∨ ∃ w, (s.arrival v).rxq = s.rxq ++ [w] := by
  rcases arrival_cases s v with ⟨-, ht⟩ | ⟨-, -, ht⟩ | ⟨-, -, ht⟩ <;> rw [ht]
  · exact .inl rfl
  · exact (receive_rxq s.drawn _).imp_right fun hw => ⟨_, hw⟩
  · exact (receive_rxq s v).imp_right fun hw => ⟨v, hw⟩

/-- The device's step leaves RXQ, as in a halted block, or adds one byte at its end. -/
theorem arrive_rxq {s t : State} {v : Byte} (h : arrive s v = .next t) :
    t.rxq = s.rxq ∨ ∃ w, t.rxq = s.rxq ++ [w] := by
  rcases arrive_next h with ⟨-, rfl⟩ | ⟨-, rfl⟩
  · exact arrival_rxq s v
  · exact .inl rfl

/-- Settles O50: at the block's turn a command leaves RXQ, takes its head or empties it
(`blockTurn_rxq`); only the device's turn appends, one byte (`arrive_rxq`); reset empties RXQ. -/
theorem receiveQueueIsFifo : Obligations.ReceiveQueueIsFifo := by
  intro s t hstep
  rcases step_next hstep with ⟨-, hblock⟩ | ⟨v, hdev, harrive⟩ | ⟨-, rfl⟩
  · exact (blockTurn_rxq hblock).imp_right .inr
  · exact (arrive_rxq harrive).imp_right fun hw => .inl ⟨v, hdev, hw⟩
  · exact .inr (.inr (.inr rfl))

end Sys2Proof.Machine
end

section
/-! SUPPORT. The encoding family, first part: the decoders and the encoder are each other's inverses
(30_encoding.md R75, R80 to R86). -/

namespace Sys2Proof.Machine

/-! ### Command records -/

/-- A command record decodes to the instruction whose encoding it is (R75). -/
theorem decodeCommand_of_encode {i : Instr} {c : Cmd} (h : encode i = .command c) :
    decodeCommand c = .instr i := by
  cases i
  case frameProbe | frameErase | frameData | frameTerm | respAck | respNack | respTimeout => cases h
  case cfg m o => cases m <;> cases h <;> simp [decodeCommand, opcodeMap, OpcodeRow.hits]
  all_goals cases h; simp [decodeCommand, opcodeMap, OpcodeRow.hits]

/-- The command words of the opcode map (R75). -/
def commandWords : List Byte :=
  [0x10, 0x20, 0x21, 0x22, 0x23, 0x24, 0x25, 0x26, 0x30, 0x31, 0x32, 0x33, 0x34, 0x35]

/-- The word of an encoded command is one of the map's (R75). -/
theorem opc_mem_of_encode {i : Instr} {c : Cmd} (h : encode i = .command c) :
    c.opc ∈ commandWords := by
  cases i
  case frameProbe | frameErase | frameData | frameTerm | respAck | respNack | respTimeout => cases h
  case cfg m o => cases m <;> cases h <;> simp [commandWords]
  all_goals cases h; simp [commandWords]

/-- A command is rejected exactly where no row of the map hits its word (R75, R76). -/
theorem decodeCommand_reject_iff (c : Cmd) :
    (∃ r, decodeCommand c = .reject r) ↔ ∀ r ∈ opcodeMap, r.hits c.opc = false := by
  unfold decodeCommand
  split
  · rename_i r hfind
    have hhit := List.find?_some (p := fun r : OpcodeRow => r.hits c.opc) hfind
    have hmem := List.mem_of_find?_eq_some hfind
    simp only [reduceCtorEq, exists_false, false_iff]
    intro hnone
    exact absurd hhit (by simp [hnone r hmem])
  · rename_i hfind
    simpa using hfind

/-- Only a Data frame can be ill-formed, so whatever has a command's operands is well-formed. -/
theorem wellFormed_of_operands {i : Instr} {o : Operands} (h : i.operands? = some o) :
    i.wellFormed = true := by
  cases i
  case frameData => cases h
  all_goals rfl

/-! ### Wire frames -/

@[simp] theorem dataFrame_length (p : Bytes) (c : Byte) : (dataFrame p c).length = p.length + 3 := by
  simp [dataFrame]

/-- The fields of a Data frame: its end bytes, its checksum byte and its payload stand where R82 says. -/
theorem dataFrame_fields {p : Bytes} (hp : p.length = Config.blockSize) (c : Byte) :
    (dataFrame p c).getD 0 0 = Config.dataStart ∧ (dataFrame p c).getD 17 0 = c ∧
    (dataFrame p c).getD 18 0 = Config.dataEnd ∧ slice (dataFrame p c) 1 17 = p := by
  have h16 : p.length = 16 := hp
  refine ⟨rfl, ?_, ?_, ?_⟩
  · simp [dataFrame, h16]
  · simp [dataFrame, h16]
  · simp [slice, dataFrame, h16]

/-- The decoder's test for a Data frame is met exactly by the Data frames, whatever the checksum byte
(R82). -/
theorem dataFrame_shape_iff (s : Bytes) :
    (s.length = Config.dataFrameLen ∧ s.getD 0 0 = Config.dataStart ∧
      s.getD 18 0 = Config.dataEnd) ↔
    (slice s 1 17).length = Config.blockSize ∧ s = dataFrame (slice s 1 17) (s.getD 17 0) := by
  constructor
  · rintro ⟨hlen, hstart, hend⟩
    have hlen : s.length = 19 := hlen
    have hfirst : s.take 1 = [s.getD 0 0] := by
      rw [List.take_one, List.head?_eq_getElem?, List.getD_eq_getElem?_getD]
      simp [hlen]
    have hlast : s.drop 17 = [s.getD 17 0, s.getD 18 0] := by
      rw [List.drop_eq_getElem_cons (by omega), List.drop_eq_getElem_cons (by omega),
        List.drop_eq_nil_of_le (by omega), List.getD_eq_getElem _ _ (by omega),
        List.getD_eq_getElem _ _ (by omega)]
    refine ⟨by simp [slice, hlen, Config.blockSize], ?_⟩
    calc s
      _ = s.take 1 ++ ((s.drop 1).take 16 ++ (s.drop 1).drop 16) := by
        rw [List.take_append_drop, List.take_append_drop]
      _ = [s.getD 0 0] ++ (slice s 1 17 ++ [s.getD 17 0, s.getD 18 0]) := by
        rw [List.drop_drop, hfirst, hlast]; rfl
      _ = dataFrame (slice s 1 17) (s.getD 17 0) := by
        rw [hstart, hend]; simp [dataFrame]
  · rintro ⟨hlen, hs⟩
    obtain ⟨hstart, -, hend, -⟩ := dataFrame_fields hlen (s.getD 17 0)
    rw [← hs] at hstart hend
    refine ⟨?_, hstart, hend⟩
    rw [hs, dataFrame_length, hlen]
    rfl

/-- A Data frame decodes as one, whatever its checksum byte (R82, log 13). -/
theorem decodeFrame_dataFrame {p : Bytes} (hp : p.length = Config.blockSize) (c : Byte) :
    decodeFrame (dataFrame p c) = .instr (.frameData p c) := by
  obtain ⟨hstart, hcheck, hend, hpayload⟩ := dataFrame_fields hp c
  have hlen : (dataFrame p c).length = Config.dataFrameLen := by rw [dataFrame_length, hp]; rfl
  have hlong : ∀ b : Bytes, b.length ≠ Config.dataFrameLen → dataFrame p c ≠ b :=
    fun b hb h => hb (h ▸ hlen)
  unfold decodeFrame
  rw [if_neg (hlong _ (by decide)), if_neg (hlong _ (by decide)), if_neg (hlong _ (by decide)),
    if_pos ⟨hlen, hstart, hend⟩, hcheck, hpayload]

/-- All the frame decoder can answer: one of the four frames of R80 to R83, or a rejection. -/
theorem decodeFrame_cases (s : Bytes) :
    (s = [Config.probeByte] ∧ decodeFrame s = .instr .frameProbe) ∨
    (s = [Config.eraseA, Config.eraseB] ∧ decodeFrame s = .instr .frameErase) ∨
    (s = [Config.termByte] ∧ decodeFrame s = .instr .frameTerm) ∨
    (∃ p c, p.length = Config.blockSize ∧ s = dataFrame p c ∧
      decodeFrame s = .instr (.frameData p c)) ∨
    decodeFrame s = .reject (.notAFrame s) := by
  by_cases hprobe : s = [Config.probeByte]
  · subst hprobe; exact .inl ⟨rfl, rfl⟩
  by_cases herase : s = [Config.eraseA, Config.eraseB]
  · subst herase; exact .inr (.inl ⟨rfl, rfl⟩)
  by_cases hterm : s = [Config.termByte]
  · subst hterm; exact .inr (.inr (.inl ⟨rfl, rfl⟩))
  by_cases hdata : s.length = Config.dataFrameLen ∧ s.getD 0 0 = Config.dataStart ∧
      s.getD 18 0 = Config.dataEnd
  · obtain ⟨hp, hs⟩ := (dataFrame_shape_iff s).1 hdata
    refine .inr (.inr (.inr (.inl ⟨_, _, hp, hs, ?_⟩)))
    rw [hs, decodeFrame_dataFrame hp, ← hs]
  · refine .inr (.inr (.inr (.inr ?_)))
    unfold decodeFrame
    rw [if_neg hprobe, if_neg herase, if_neg hterm, if_neg hdata]

/-- What the frame decoder accepts is well-formed and encodes to the string it was read from. -/
theorem decodeFrame_instr {s : Bytes} {i : Instr} (h : decodeFrame s = .instr i) :
    encode i = .frame s ∧ i.wellFormed = true := by
  rcases decodeFrame_cases s with ⟨hs, hd⟩ | ⟨hs, hd⟩ | ⟨hs, hd⟩ | ⟨p, c, hp, hs, hd⟩ | hd <;>
    rw [hd] at h <;> cases h
  case inr.inr.inr.inl => exact ⟨congrArg Encoded.frame hs.symm, decide_eq_true hp⟩
  all_goals exact ⟨congrArg Encoded.frame hs.symm, rfl⟩

/-! ### Response bytes -/

/-- What the response decoder accepts is well-formed and encodes to the byte it was read from (R84). -/
theorem decodeResponse_instr {v : Byte} {i : Instr} (h : decodeResponse v = .instr i) :
    encode i = .response v ∧ i.wellFormed = true := by
  unfold decodeResponse at h
  split_ifs at h with hack hnack htimeout <;> cases h
  · exact ⟨congrArg Encoded.response hack.symm, rfl⟩
  · exact ⟨congrArg Encoded.response hnack.symm, rfl⟩
  · exact ⟨congrArg Encoded.response htimeout.symm, rfl⟩

/-! ### The statements -/

/-- Settles O1: a command's word is looked up in the map (`decodeCommand_of_encode`), a Data frame's
fields are read back (`decodeFrame_dataFrame`), the other rows are fixed bytes. -/
theorem decodeOfEncodeIsTheInstruction : Obligations.DecodeOfEncodeIsTheInstruction := by
  intro i hwf
  cases i
  case frameData p c => exact decodeFrame_dataFrame (of_decide_eq_true hwf) c
  case frameProbe | frameErase | frameTerm | respAck | respNack | respTimeout => rfl
  all_goals exact decodeCommand_of_encode rfl

/-- Settles O2: one inversion of each of the three decoders. -/
theorem encodeOfDecodeIsTheEncoding : Obligations.EncodeOfDecodeIsTheEncoding := by
  intro e i h
  cases e with
  | command c =>
    obtain ⟨hops, henc⟩ := decodeCommand_instr h
    exact ⟨henc, wellFormed_of_operands hops⟩
  | frame s => exact decodeFrame_instr h
  | response v => exact decodeResponse_instr h

/-- Settles O3: the words by `decodeCommand_of_encode` and `opc_mem_of_encode`; the mode bit and that the
rows do not overlap are checked on each of the 256 words. -/
theorem opcodeMapIsComplete : Obligations.OpcodeMapIsComplete := by
  refine ⟨fun o => ?words, fun c i h => ?onlyWords, ?modeBit, ?noOverlap⟩
  case words => and_intros <;> exact decodeCommand_of_encode rfl
  case onlyWords => exact opc_mem_of_encode (decodeCommand_instr h).2
  case modeBit => decide
  case noOverlap => decide

/-- Settles O4: each word is evaluated by the table's decoder. -/
theorem writtenWordsDecode : Obligations.WrittenWordsDecode := by
  unfold Obligations.WrittenWordsDecode
  decide

end Sys2Proof.Machine
end

section
/-! SUPPORT. The encoding family, second part: the illegal words (R76), frames cut by their first byte
(R85), the length check of every command (R72), and the wire rows as PARSE and CLASSIFY take them
(R80 to R84, R86). -/

namespace Sys2Proof.Machine

/-! ### Illegal words and over-long arguments -/

/-- The words no row of the map hits are those of the four ranges of R76: checked on each word. -/
theorem no_row_hits_iff : ∀ w : Byte, (∀ r ∈ opcodeMap, r.hits w = false) ↔
    (w ≤ 0x0F ∨ (0x11 ≤ w ∧ w ≤ 0x1F) ∨ (0x27 ≤ w ∧ w ≤ 0x2F) ∨ 0x36 ≤ w) := by decide

/-- At the block's turn the pending command is tried. -/
theorem step_of_pending {s : State} {c : Cmd} (hturn : s.atBlockTurn) (hport : s.port = some c) :
    step s = runCommand c s.turnTaken := by
  rw [step_of_atBlockTurn hturn]
  simp [blockTurn, hport]

/-- Settles O5: the rejected words are those no row hits (`no_row_hits_iff`), and in a running block such
a command raises ILLEGAL_OP. -/
theorem illegalOpcodesAreTheRest : Obligations.IllegalOpcodesAreTheRest := by
  have hranges := fun c : Cmd => (decodeCommand_reject_iff c).trans (no_row_hits_iff c.opc)
  refine ⟨hranges, fun s c hrun hturn hport hword => ?_⟩
  obtain ⟨e, he⟩ := (hranges c).2 hword
  rw [step_of_pending hturn hport, runCommand_of_reject he]
  exact illegalCommand_of_running hrun

/-- A command brings its ARG to the length check, whether the operation uses ARG or not (R72). -/
theorem carriedArg_of_operands {i : Instr} {o : Operands} (h : i.operands? = some o) :
    carriedArg i = o.arg := by
  cases i
  case frameProbe | frameErase | frameData | frameTerm | respAck | respNack | respTimeout => cases h
  all_goals cases h; rfl

/-- Settles O16: the length check stands before every command's own rule (`exec_of_tooLong`). -/
theorem longArgumentFaultsForEveryCommand : Obligations.LongArgumentFaultsForEveryCommand := by
  intro i o s hops hrun hlong
  rw [← carriedArg_of_operands hops] at hlong
  exact exec_of_tooLong i s hrun hlong

/-! ### Cutting frames off a stream -/

/-- The first byte of a frame gives its length (R85). -/
theorem frameLength_of_decodeFrame {b : Bytes} {i : Instr} (h : decodeFrame b = .instr i) :
    frameLength (b.getD 0 0) = some b.length := by
  rcases decodeFrame_cases b with ⟨rfl, -⟩ | ⟨rfl, -⟩ | ⟨rfl, -⟩ | ⟨p, c, hp, rfl, -⟩ | hd
  case inr.inr.inr.inl => exact Laws.UnitOfEncoding.frameData p c (decide_eq_true hp)
  case inr.inr.inr.inr => rw [hd] at h; cases h
  all_goals rfl

/-- A stream is cut at the end of a string whose length its first byte gives. -/
theorem cutFrame_append {b : Bytes} (h : frameLength (b.getD 0 0) = some b.length) (rest : Bytes) :
    cutFrame (b ++ rest) = some (b, rest) := by
  cases b with
  | nil => exact absurd h (by decide)
  | cons v t =>
    have hv : frameLength v = some (v :: t).length := h
    have hfit : (v :: t).length ≤ (v :: t ++ rest).length := by simp
    show (frameLength v).bind _ = _
    rw [hv, Option.bind_some, if_pos hfit, List.take_left, List.drop_left]

/-- Settles O6: the lengths are R85's by the constants' values, and a frame's first byte gives its
length, at which the stream is cut. -/
theorem frameLengthByFirstByte : Obligations.FrameLengthByFirstByte :=
  ⟨fun _ => rfl, by decide, fun _ rest _ h => cutFrame_append (frameLength_of_decodeFrame h) rest⟩

/-! ### The wire rows -/

/-- What PARSE answers where the frame decoder answers `d`: the shape of a frame, BAD_CHECKSUM for a Data
frame whose checksum byte is wrong, MALFORMED for anything else (R78, R175). -/
def shapeRsp : Decoded → Rsp
  | .instr .frameProbe => okRsp shapeProbe
  | .instr .frameErase => okRsp shapeErase
  | .instr .frameTerm => okRsp shapeTerminate
  | .instr (.frameData p c) =>
    if c = crc8 p then okRsp shapeData p else okRsp shapeBadChecksum p (some c)
  | _ => okRsp shapeMalformed

/-- PARSE names what the frame decoder answers. -/
theorem parseRsp_eq_shapeRsp (s : Bytes) : parseRsp s = shapeRsp (decodeFrame s) := by
  simp only [parseRsp, decodeFrame, apply_ite shapeRsp]
  rfl

theorem shapeRsp_frameData_code (p : Bytes) (c : Byte) :
    (shapeRsp (.instr (.frameData p c))).code =
      if c = crc8 p then shapeData else shapeBadChecksum := by
  by_cases hc : c = crc8 p <;> simp [shapeRsp, hc, okRsp]

/-- PARSE answers MALFORMED exactly for what the frame decoder rejects (R86). -/
theorem parseRsp_malformed_iff (s : Bytes) :
    (parseRsp s).code = shapeMalformed ↔ ∃ x, decodeFrame s = .reject x := by
  rw [parseRsp_eq_shapeRsp]
  rcases decodeFrame_cases s with ⟨-, hd⟩ | ⟨-, hd⟩ | ⟨-, hd⟩ | ⟨p, c, -, -, hd⟩ | hd <;> rw [hd]
  case inr.inr.inr.inl =>
    rw [shapeRsp_frameData_code]
    split_ifs <;> simp [shapeData, shapeBadChecksum, shapeMalformed]
  all_goals simp [shapeRsp, okRsp, shapeProbe, shapeErase, shapeTerminate, shapeMalformed]

/-- PARSE answers BAD_CHECKSUM exactly for a Data frame with a wrong checksum byte (R175, log 13). -/
theorem parseRsp_badChecksum_iff (s : Bytes) :
    (parseRsp s).code = shapeBadChecksum ↔
      ∃ p c, decodeFrame s = .instr (.frameData p c) ∧ c ≠ crc8 p := by
  rw [parseRsp_eq_shapeRsp]
  rcases decodeFrame_cases s with ⟨-, hd⟩ | ⟨-, hd⟩ | ⟨-, hd⟩ | ⟨p, c, -, -, hd⟩ | hd <;> rw [hd]
  case inr.inr.inr.inl =>
    rw [shapeRsp_frameData_code]
    by_cases hc : c = crc8 p <;> simp [hc, shapeData, shapeBadChecksum]
  all_goals
    simp [shapeRsp, okRsp, shapeProbe, shapeErase, shapeTerminate, shapeBadChecksum, shapeMalformed]

/-- Settles O34: a running block answers PARSE with `parseRsp` of its ARG, and its code is MALFORMED or
BAD_CHECKSUM as the frame decoder says. -/
theorem malformedIsExactlyTheRejected : Obligations.MalformedIsExactlyTheRejected := by
  intro o s t r hrun hcar hexec hrsp
  rw [exec_of_running (.parse o) s hrun hcar] at hexec
  cases hexec
  cases hrsp
  exact ⟨parseRsp_malformed_iff o.arg, parseRsp_badChecksum_iff o.arg⟩

/-- With ARG_MAX within its bound every frame fits the carrier (00_scope.md R7). -/
theorem carries_of_length_le {s : State} (hpar : s.par.wf) {b : Bytes} (hb : b.length ≤ 19) :
    s.carries b :=
  hb.trans hpar.1

/-- Settles O31: each frame fits the carrier, so the block answers `parseRsp` of its bytes, which is the
shape of what they decode to. -/
theorem wireFramesAreParsed : Obligations.WireFramesAreParsed := by
  intro s hrun hpar
  refine ⟨?probe, ?erase, ?term, fun p c hp => ?data⟩
  case data =>
    rw [exec_of_running (.frameData p c) s hrun
      (carries_of_length_le hpar (by simp [carriedArg, hp]))]
    show Host.Outcome.next (s.respond (parseRsp (dataFrame p c))) = _
    rw [parseRsp_eq_shapeRsp, decodeFrame_dataFrame hp]
    rfl
  all_goals exact exec_of_running _ s hrun (carries_of_length_le hpar (by decide))

/-- Settles O32: a response byte brings no ARG to the length check, so the block answers `classifyRsp`
of it. -/
theorem responseBytesAreClassified : Obligations.ResponseBytesAreClassified := fun s hrun =>
  ⟨exec_of_running .respAck s hrun (Nat.zero_le _), exec_of_running .respNack s hrun (Nat.zero_le _),
    exec_of_running .respTimeout s hrun (Nat.zero_le _)⟩

end Sys2Proof.Machine
end

section
/-! SUPPORT. The encoding family, third part: program lines (30_encoding.md R87, R88) and host statements
(R89). -/

namespace Sys2Proof.Machine

/-! ### The turn of a host that issues nothing -/

/-- At its turn, waiting for nothing, the host carries out a statement and nothing else happens. -/
theorem blockTurn_of_move {s : State} {k : HostState} (hport : s.port = none)
    (hab : s.abandoned = false) (hmove : hostMove s.rsp s.host = .move k) :
    blockTurn s = .next (s.hostMoved k) := by
  simp [blockTurn, hport, hab, hmove]

/-- A host that waits for an abandoned command, or has nothing to do, leaves everything (R211). -/
theorem blockTurn_of_still {s : State} (hport : s.port = none)
    (hstill : s.abandoned = true ∨ hostMove s.rsp s.host = .idle) : blockTurn s = .next s := by
  rcases hstill with hab | hidle
  · simp [blockTurn, hport, hab]
  · cases hab : s.abandoned <;> simp [blockTurn, hport, hab, hidle]

/-! ### Counters and labels -/

theorem HostState.counter_setCounter_self (h : HostState) (k n : Nat) :
    (h.setCounter k n).counter k = n := by
  simp [HostState.counter, HostState.setCounter]

/-- Dropping the entries of one key leaves the look-up of every other. -/
theorem lookup_filter_of_ne {j k : Nat} (hjk : j ≠ k) (l : List (Nat × Nat)) :
    (l.filter fun e => e.1 ≠ k).lookup j = l.lookup j := by
  induction l with
  | nil => rfl
  | cons e l ih =>
    obtain ⟨i, n⟩ := e
    by_cases hik : i = k
    · rw [List.filter_cons_of_neg (by simp [hik]), ih]
      simp [List.lookup, hik, beq_false_of_ne hjk]
    · rw [List.filter_cons_of_pos (by simp [hik])]
      simp only [List.lookup, ih]

/-- Setting a counter leaves every other. -/
theorem HostState.counter_setCounter_of_ne {j k : Nat} (hjk : j ≠ k) (h : HostState) (n : Nat) :
    (h.setCounter k n).counter j = h.counter j := by
  have hkey : (j == k) = false := beq_false_of_ne hjk
  simp only [HostState.counter, HostState.setCounter, List.lookup, hkey, lookup_filter_of_ne hjk]

/-- A test goes on at the label where it holds, and at the next line where it does not (R89). -/
theorem HostState.branch_eq (h : HostState) (taken : Bool) (l : Nat) (r : List HostOp) :
    h.branch taken l r = { h with rest := if taken then linesAfter l h.prog else r } := by
  cases taken <;> rfl

/-- `dec` of a counter that is set takes one off it and goes on at the label unless it is used up. -/
theorem hostMove_dec {h : HostState} {k n : Nat} (hk : h.counter k = n + 1) (p : Option Rsp) (l : Nat)
    (r : List HostOp) :
    hostMove p { h with rest := .dec k l :: r } =
      .move { h.setCounter k n with rest := if n ≠ 0 then linesAfter l h.prog else r } := by
  have hleft : HostState.counter { h with rest := .dec k l :: r } k - 1 = n := by
    show h.counter k - 1 = n
    omega
  simp [hostMove, skipNoStep, hleft, HostState.branch_eq, HostState.setCounter]

/-- The lines after a label are those after the first line that bears it. -/
theorem linesAfter_append {l : Nat} {pre : List HostOp} (hpre : .label l ∉ pre)
    (post : List HostOp) : linesAfter l (pre ++ .label l :: post) = post := by
  induction pre with
  | nil => simp [linesAfter]
  | cons op pre ih =>
    have hrest := ih (List.not_mem_of_not_mem_cons hpre)
    cases op with
    | label l' =>
      have hne : l' ≠ l := fun hl => hpre (by simp [hl])
      simpa [linesAfter, hne] using hrest
    | _ => exact hrest

/-! ### The statements -/

/-- Settles O58: the turn by `blockTurn_of_move` and `blockTurn_of_still`, each statement by what
`hostMove` makes of it, the lines after a label by `linesAfter_append`. -/
theorem hostStatementsMoveTheHostAlone : Obligations.HostStatementsMoveTheHostAlone := by
  refine ⟨fun s k hturn hport hab hmove => ?move, fun s hturn hport hstill => ?still,
    fun p h r l k n => ?statements, fun a h r code st l => ?tests,
    fun l pre post hpre => linesAfter_append hpre post⟩
  case move => exact (step_of_atBlockTurn hturn).trans (blockTurn_of_move hport hab hmove)
  case still => exact (step_of_atBlockTurn hturn).trans (blockTurn_of_still hport hstill)
  case statements =>
    exact ⟨rfl, rfl, rfl, rfl, rfl, rfl, h.counter_setCounter_self k n,
      fun j hj => HostState.counter_setCounter_of_ne hj h n, rfl, rfl,
      fun hk => hostMove_dec hk p l r⟩
  case tests => constructor <;> simp [hostMove, skipNoStep, HostState.branch_eq]

/-- Settles O56: each line and each operand form is an equation of `assembleLine`, `evalBytes` or
`evalOpt`. -/
theorem linesAssembleToCommands : Obligations.LinesAssembleToCommands := by
  refine ⟨fun b x n => ?lines, fun p r x y b n v => ?operands⟩
  case lines => and_intros <;> rfl
  case operands => and_intros <;> rfl

/-- Settles O57: each pseudo-instruction is the lines of its expansion, assembled one after the other. -/
theorem pseudoInstructionsExpand : Obligations.PseudoInstructionsExpand :=
  ⟨rfl, rfl, fun _ => rfl, rfl, rfl⟩

end Sys2Proof.Machine
end

section
/-! SUPPORT. The checksum family: the bit step in arithmetic, linearity of the bit step, the byte step and
the string function, and the byte step as a function of one exclusive or (41_checksum.md R100 to
R105). -/

namespace Sys2Proof.Machine

/-! ### The bit step -/

/-- The bit that decides whether the polynomial is applied, in arithmetic (R100). -/
theorem lowBit_xor_eq_decide (crc : Byte) (b : Bool) :
    (crc.getLsbD 0 ^^ b) = decide ((crc.toNat + b.toNat) % 2 = 1) := by
  have hlow : crc.getLsbD 0 = decide (crc.toNat % 2 = 1) := by simp [BitVec.getLsbD]
  rw [hlow, Bool.eq_iff_iff]
  cases b
  case false => simp
  case true => simp; omega

theorem crc8Bit_toNat (crc : Byte) (b : Bool) : (crc8Bit crc b).toNat =
    if (crc.toNat + b.toNat) % 2 = 1 then (crc.toNat / 2) ^^^ 0x8C else crc.toNat / 2 := by
  have hhalf : (crc >>> 1).toNat = crc.toNat / 2 := by
    rw [BitVec.toNat_ushiftRight, Nat.shiftRight_one]
  simp only [crc8Bit, lowBit_xor_eq_decide, decide_eq_true_eq]
  split
  · rw [BitVec.toNat_xor, hhalf]
    rfl
  · exact hhalf

/-- What the bit step adds to the shifted value: the polynomial, or nothing (R100). -/
def polyIf (t : Bool) : Byte := if t then Config.crcPoly else 0x00

theorem polyIf_xor : ∀ t u : Bool, polyIf (t ^^ u) = polyIf t ^^^ polyIf u := by decide

theorem crc8Bit_eq_polyIf (c : Byte) (b : Bool) :
    crc8Bit c b = (c >>> 1) ^^^ polyIf (c.getLsbD 0 ^^ b) := by
  simp only [crc8Bit, polyIf]
  split
  · rfl
  · exact BitVec.xor_zero.symm

/-- The bit step is linear: the deciding bit, the shift and what is added to it are. -/
theorem crc8Bit_xor (c d : Byte) (a b : Bool) :
    crc8Bit (c ^^^ d) (a ^^ b) = crc8Bit c a ^^^ crc8Bit d b := by
  have hbit : ((c ^^^ d).getLsbD 0 ^^ (a ^^ b)) = ((c.getLsbD 0 ^^ a) ^^ (d.getLsbD 0 ^^ b)) := by
    rw [BitVec.getLsbD_xor, Bool.xor_assoc, Bool.xor_assoc, Bool.xor_left_comm a]
  simp only [crc8Bit_eq_polyIf, hbit, polyIf_xor, BitVec.ushiftRight_xor_distrib]
  ac_rfl

/-- An input bit equal to the low bit only shifts. -/
theorem crc8Bit_lowBit (c : Byte) : crc8Bit c (c.getLsbD 0) = c >>> 1 := by
  simp [crc8Bit]

/-! ### The byte step -/

theorem crc8Byte_xor (c d v w : Byte) :
    crc8Byte (c ^^^ d) (v ^^^ w) = crc8Byte c v ^^^ crc8Byte d w := by
  simp only [crc8Byte, bitsLsbFirst, BitVec.getLsbD_xor, List.foldl_cons, List.foldl_nil,
    crc8Bit_xor]

/-- A byte equal to the running value shifts it out: each of its bits meets itself. -/
theorem crc8Byte_self (c : Byte) : crc8Byte c c = 0x00 := by
  have hshift : ∀ k, crc8Bit (c >>> k) (c.getLsbD k) = c >>> (k + 1) := by
    intro k
    have hlow : (c >>> k).getLsbD 0 = c.getLsbD k := by simp
    rw [← hlow, crc8Bit_lowBit, ← BitVec.shiftRight_add]
  calc crc8Byte c c = c >>> 8 := by
        simp only [crc8Byte, bitsLsbFirst, List.foldl_cons, List.foldl_nil, crc8Bit_lowBit, hshift]
    _ = 0x00 := BitVec.ushiftRight_eq_zero (Nat.le_refl 8)

/-- The byte step depends on the running value and the byte only through their exclusive or. -/
theorem crc8Byte_eq_xor (c v : Byte) : crc8Byte c v = crc8Byte 0x00 (c ^^^ v) := by
  calc crc8Byte c v = crc8Byte (c ^^^ 0x00) (c ^^^ (c ^^^ v)) := by simp
    _ = crc8Byte c c ^^^ crc8Byte 0x00 (c ^^^ v) := crc8Byte_xor ..
    _ = crc8Byte 0x00 (c ^^^ v) := by rw [crc8Byte_self]; exact BitVec.zero_xor

/-! ### The string function and the table -/

theorem crc8_append_singleton (s : Bytes) (v : Byte) : crc8 (s ++ [v]) = crc8Byte (crc8 s) v :=
  List.foldl_concat ..

/-- The fold of R102 is linear from any two running values, byte by byte (`crc8Byte_xor`). -/
theorem foldl_crc8Byte_xor {a b : Bytes} (h : a.length = b.length) (c d : Byte) :
    (List.zipWith (fun x y => x ^^^ y) a b).foldl crc8Byte (c ^^^ d) =
      a.foldl crc8Byte c ^^^ b.foldl crc8Byte d := by
  induction a generalizing b c d with
  | nil => cases b with
    | nil => rfl
    | cons y b => cases h
  | cons x a ih => cases b with
    | nil => cases h
    | cons y b =>
      simp only [List.zipWith_cons_cons, List.foldl_cons, crc8Byte_xor]
      exact ih (Nat.succ.inj h) _ _

set_option maxRecDepth 4000 in
/-- The rows of R105, evaluated: entry n is CRC8([n]). -/
theorem crcTable_eq_map : crcTable = (List.range 256).map fun n => crc8 [BitVec.ofNat 8 n] := by
  decide

theorem crcTable_getD (x : Byte) : crcTable.getD x.toNat 0x00 = crc8 [x] := by
  have hx : x.toNat < 256 := x.isLt
  simp [crcTable_eq_map, List.getD, hx]

/-! ### The statements -/

/-- Settles O22: the entries are evaluated one by one, and the byte step is a function of one exclusive
or (`crc8Byte_eq_xor`), so the pairs need not be. -/
theorem crcTableAgrees : Obligations.CrcTableAgrees := by
  refine ⟨by simp [crcTable_eq_map], crcTable_getD, fun c v => ?_⟩
  rw [crc8Byte_eq_xor, crcTable_getD]
  rfl

/-- Settles O23, by induction on the number of bytes: 0x00 keeps the running value 0x00
(`crc8Byte_self`). -/
theorem crcOfZerosIsZero : Obligations.CrcOfZerosIsZero := by
  intro n
  induction n with
  | zero => rfl
  | succ n ih => rw [List.replicate_succ', crc8_append_singleton, ih, crc8Byte_self]

/-- Settles O24: `foldl_crc8Byte_xor` from the seed, which is 0x00 and so its own exclusive or. -/
theorem crcIsLinear : Obligations.CrcIsLinear :=
  fun _ _ h => foldl_crc8Byte_xor h Config.crcSeed Config.crcSeed

/-- Settles O25: the last byte equals the running value (`crc8Byte_self`). -/
theorem crcChecksItself : Obligations.CrcChecksItself := fun s => by
  rw [crc8_append_singleton, crc8Byte_self]

/-- Settles O21: the bit step by `crc8Bit_toNat`, the byte step by its list of bits, the string function
as a fold from the left. -/
theorem crcGoesBitByBit : Obligations.CrcGoesBitByBit :=
  ⟨crc8Bit_toNat, fun _ _ => rfl, rfl, crc8_append_singleton⟩

/-- Settles O26: word and line by the map and the assembler; in a running block the length check decides
between CRC8's own rule and ARG_TOO_LONG. -/
theorem crc8AnswersTheChecksum : Obligations.Crc8AnswersTheChecksum := by
  refine ⟨fun o => decodeCommand_of_encode rfl, fun b => ⟨0, .absent, rfl⟩,
    fun o s hrun hcar => ?fits, fun o s hrun hlong => ?tooLong⟩
  case fits => exact exec_of_running (.crc8 o) s hrun hcar
  case tooLong => exact exec_of_tooLong (.crc8 o) s hrun hlong

end Sys2Proof.Machine
end

section
/-! SUPPORT. The transport family, first part: the outcomes of OPEN, CLOSE, CFG, WRITE, READ and FLUSH
(42_transport.md R122 to R132), and that only READ holds (R142). -/

namespace Sys2Proof.Machine

/-! ### The drawn failures -/

theorem deviceFails_eq_true (s : State) :
    deviceFails s = true ↔ s.par.devErrors = true ∧ Config.drawFail s.draws = true := by
  simp [deviceFails]

theorem transferFails_eq_true (s : State) :
    transferFails s = true ↔ s.par.ioErrors = true ∧ Config.drawFail s.draws = true := by
  simp [transferFails]

/-! ### OPEN and CLOSE -/

/-- Settles O38: the branches of OPEN's own rule, in R122's order. -/
theorem openOutcomes : Obligations.OpenOutcomes := by
  refine ⟨fun o => decodeCommand_of_encode rfl, fun n => rfl, fun o s hrun hcar => ?_⟩
  rw [exec_of_running (.openConn o) s hrun hcar, ruleState]
  rcases openRule_cases s o.ep with ⟨hc, ht⟩ | ⟨hc, he, ht⟩ | ⟨hc, he, hf, ht⟩ | ⟨hc, he, hf, ht⟩
  · rw [ht, if_pos hc]; rfl
  · rw [ht, if_neg (by simp [hc]), if_pos he]; rfl
  · rw [ht, if_neg (by simp [hc]), if_neg (by simp [he]), if_pos ((deviceFails_eq_true s).1 hf)]; rfl
  · rw [ht, if_neg (by simp [hc]), if_neg (by simp [he]),
      if_neg (by simp [← deviceFails_eq_true, hf])]; rfl

/-- Settles O39: of the outcomes of OPEN (`openOutcomes`) the premises leave the last. -/
theorem openCompletes : Obligations.OpenCompletes := by
  intro o s hrun hcar hclosed hep hdev
  obtain ⟨-, -, houtcome⟩ := openOutcomes
  simp [houtcome o s hrun hcar, hclosed, hep, hdev]

/-- Settles O40: CLOSE's own rule has one branch (R125). -/
theorem closeReleases : Obligations.CloseReleases :=
  ⟨fun _ => decodeCommand_of_encode rfl, ⟨0, .lit [], .absent, rfl⟩,
    fun o s hrun hcar => exec_of_running (.closeConn o) s hrun hcar⟩

/-! ### CFG -/

/-- Settles O41: the branches of CFG's own rule, in R127's order. -/
theorem cfgOutcomes : Obligations.CfgOutcomes := by
  refine ⟨fun o => ⟨decodeCommand_of_encode rfl, decodeCommand_of_encode rfl⟩, ⟨rfl, rfl⟩,
    fun m o s hrun hcar => ?_⟩
  rw [exec_of_running (.cfg m o) s hrun hcar, ruleState]
  rcases cfgRule_cases s m with ⟨hc, ht⟩ | ⟨hc, hf, ht⟩ | ⟨hc, hf, ht⟩
  · rw [ht, if_pos hc]; rfl
  · rw [ht, if_neg (by simp [hc]), if_pos ((deviceFails_eq_true s).1 hf)]; rfl
  · rw [ht, if_neg (by simp [hc]), if_neg (by simp [← deviceFails_eq_true, hf])]; rfl

/-- Settles O42: of the outcomes of CFG (`cfgOutcomes`) the premises leave the last. -/
theorem cfgCompletes : Obligations.CfgCompletes := by
  intro m o s hrun hcar hopen hdev
  obtain ⟨-, -, houtcome⟩ := cfgOutcomes
  simp [houtcome m o s hrun hcar, hopen, hdev]

/-! ### WRITE -/

/-- Settles O43: the branches of WRITE's own rule, in R128's order; the drawn `k` is a remainder by
|ARG| + 1. -/
theorem writeOutcomes : Obligations.WriteOutcomes := by
  refine ⟨fun o => decodeCommand_of_encode rfl, fun b => rfl, fun o s hrun hcar =>
    ⟨Config.drawPrefix s.draws % (o.arg.length + 1),
      Nat.le_of_lt_succ (Nat.mod_lt _ (Nat.succ_pos _)), ?_⟩⟩
  rw [exec_of_running (.write o) s hrun hcar, ruleState]
  rcases writeRule_cases s o.arg with ⟨hc, ht⟩ | ⟨hc, hm, ht⟩ | ⟨hc, hm, hf, ht⟩ | ⟨hc, hm, hf, ht⟩
  · rw [ht, if_pos hc]; rfl
  · rw [ht, if_neg (by simp [hc]), if_pos hm]; rfl
  · rw [ht, if_neg (by simp [hc]), if_neg hm, if_pos ((transferFails_eq_true s).1 hf)]; rfl
  · rw [ht, if_neg (by simp [hc]), if_neg hm, if_neg (by simp [← transferFails_eq_true, hf])]; rfl

/-- Settles O44: of the outcomes of WRITE (`writeOutcomes`) the premises leave the last. -/
theorem writeCompletes : Obligations.WriteCompletes := by
  intro o s hrun hcar hopen hmode hio
  obtain ⟨-, -, houtcome⟩ := writeOutcomes
  obtain ⟨k, -, hexec⟩ := houtcome o s hrun hcar
  simp [hexec, hopen, hmode, hio]

/-! ### READ -/

/-- All that a READ can do whose enabled step finds RXQ empty: in Streaming mode it holds; in Handshake
mode its timer has fired, or a wait is drawn, which is over at once or holds the READ (R129, R130, log 7). -/
theorem readEmpty_of_enabled {s : State} (hm : s.mode ≠ .unconfigured) (hq : s.rxq = [])
    (henabled : stillHeld s = none) :
    (s.mode = .streaming ∧ readEmpty s = s.drawn.holdOn .untilByte) ∨
    (s.mode = .handshake ∧ s.hold = some (.untilByteOrTimer 0) ∧
      readEmpty s = s.drawn.respond okRsp) ∨
    (s.mode = .handshake ∧ (s.hold = none ∨ s.hold = some .untilByte) ∧
      Config.timerWait s.draws = 0 ∧ readEmpty s = s.drawn.respond okRsp) ∨
    (∃ w, s.mode = .handshake ∧ (s.hold = none ∨ s.hold = some .untilByte) ∧
      Config.timerWait s.draws = w + 1 ∧ readEmpty s = s.drawn.holdOn (.untilByteOrTimer w)) := by
  by_cases hhs : s.mode = .handshake
  · rcases hhold : s.hold with _ | _ | _ | k
    · cases hw : Config.timerWait s.draws <;> simp [readEmpty, timerLeft, hhs, hhold, hw]
    · cases hw : Config.timerWait s.draws <;> simp [readEmpty, timerLeft, hhs, hhold, hw]
    · simp [readEmpty, timerLeft, hhs, hhold]
    · simp [stillHeld, hq, hhs, hhold] at henabled
  · exact .inl ⟨Mode.eq_streaming hm hhs, by simp [readEmpty, hhs]⟩

/-- Settles O45: a READ that goes on holding does so by its mode and hold; one whose step is enabled
passes the holding branches by, and then fails, takes a byte, or finds RXQ empty (`readEmpty_of_enabled`). -/
theorem readOutcomes : Obligations.ReadOutcomes := by
  intro o s hrun hcar
  rw [exec_of_running (.read o) s hrun hcar, ruleState]
  rcases readRule_cases s with ⟨hc, ht⟩ | ⟨hc, hm, ht⟩ | ⟨hc, hq, hm, hh, ht⟩ |
    ⟨k, hc, hq, hm, hh, ht⟩ | ⟨hc, hm, henabled, hf, ht⟩ | ⟨v, q, hc, hm, henabled, hf, hq, ht⟩ |
    ⟨hc, hm, henabled, hf, hq, ht⟩
  case inl => rw [ht, if_pos hc]; rfl
  case inr.inl => rw [ht, if_neg (by simp [hc]), if_pos hm]; rfl
  case inr.inr.inl =>
    rw [ht, if_neg (by simp [hc]), if_neg (by simp [hm])]
    obtain ⟨h, hh⟩ := Option.ne_none_iff_exists'.1 hh
    simp only [hq, hm, hh]
  case inr.inr.inr.inl =>
    rw [ht, if_neg (by simp [hc]), if_neg (by simp [hm])]
    simp only [hq, hm, hh, State.holdOn]
  all_goals
    rw [if_neg (by simp [hc]), if_neg hm]
    split
    next hq hm hh => exact absurd henabled (by simp [stillHeld, hq, hm, hh])
    next hq hm hh => exact absurd henabled (by simp [stillHeld, hq, hm, hh])
    rw [ht]
  · rw [if_pos ((transferFails_eq_true s).1 hf)]
    cases hd : Config.drawDrop s.draws <;> simp only [readDrops, hd] <;> rfl
  · rw [if_neg (by simp [← transferFails_eq_true, hf])]
    simp [hq, State.respond, State.rxPop, State.drawn, okRsp]
  · rw [if_neg (by simp [← transferFails_eq_true, hf])]
    split
    next v q hvq => exact absurd (hq.symm.trans hvq) (by simp)
    rcases readEmpty_of_enabled hm hq henabled with ⟨hst, he⟩ | ⟨hhs, hh, he⟩ | ⟨hhs, hh, hw, he⟩ |
      ⟨w, hhs, hh, hw, he⟩ <;> rw [he]
    · rw [if_pos hst]; rfl
    all_goals rw [if_neg (by simp [hhs])]
    · simp only [hh]; rfl
    · rcases hh with hh | hh <;> simp only [hh, hw] <;> rfl
    · rcases hh with hh | hh <;> simp only [hh, hw] <;> rfl

/-- Settles O46: of the outcomes of READ (`readOutcomes`) the premises leave the oldest byte. -/
theorem readReturnsTheOldestByte : Obligations.ReadReturnsTheOldestByte := by
  intro o s v q hrun hcar hopen hmode hio hq
  simp [readOutcomes o s hrun hcar, hopen, hmode, hio, hq]

/-! ### FLUSH -/

/-- Settles O47: the branches of FLUSH's own rule (R132). -/
theorem flushDiscardsInput : Obligations.FlushDiscardsInput := by
  refine ⟨fun o => decodeCommand_of_encode rfl, ⟨0, .lit [], .absent, rfl⟩, fun o s hrun hcar => ?_⟩
  rw [exec_of_running (.flush o) s hrun hcar, ruleState]
  rcases flushRule_cases s with ⟨hc, ht⟩ | ⟨hc, ht⟩ <;> rw [ht]
  · exact ⟨fun hopen => by simp [hc] at hopen, fun _ => rfl⟩
  · exact ⟨fun _ => rfl, fun hclosed => by simp [hc] at hclosed⟩

/-! ### Only READ holds -/

/-- Every instruction's own rule but READ's answers the command. -/
theorem ruleState_answers_of_not_read {i : Instr} (hi : ∀ o, i ≠ .read o) (s : State) :
    ∃ r, (ruleState i s).rsp = some r ∧ (ruleState i s).port = none := by
  cases i using instr_mux_or_other with
  | openConn o =>
    rcases openRule_cases s o.ep with ⟨-, h⟩ | ⟨-, -, h⟩ | ⟨-, -, -, h⟩ | ⟨-, -, -, h⟩ <;>
      simp [ruleState, h]
  | closeConn o => exact ⟨_, rfl, rfl⟩
  | cfg m o =>
    rcases cfgRule_cases s m with ⟨-, h⟩ | ⟨-, -, h⟩ | ⟨-, -, h⟩ <;> simp [ruleState, h]
  | write o =>
    rcases writeRule_cases s o.arg with ⟨-, h⟩ | ⟨-, -, h⟩ | ⟨-, -, -, h⟩ | ⟨-, -, -, h⟩ <;>
      simp [ruleState, h]
  | read o => exact absurd rfl (hi o)
  | flush o => rcases flushRule_cases s with ⟨-, h⟩ | ⟨-, h⟩ <;> simp [ruleState, h]
  | other i hmux => rcases ruleState_of_not_mux hmux s with ⟨r, h⟩ | h <;> simp [h]

/-- Settles O19: the length check's fault answers, and so does the own rule of every instruction but READ
(`ruleState_answers_of_not_read`). -/
theorem onlyReadHolds : Obligations.OnlyReadHolds := by
  intro i s hrun hi
  by_cases hcar : s.carries (carriedArg i)
  · obtain ⟨r, hrsp, hport⟩ := ruleState_answers_of_not_read hi s
    exact ⟨_, r, exec_of_running i s hrun hcar, hrsp, hport⟩
  · exact ⟨_, _, exec_of_tooLong i s hrun (Nat.lt_of_not_le hcar), rfl, rfl⟩

end Sys2Proof.Machine
end

section
/-! SUPPORT. The transport family, second part: the device's byte (42_transport.md R133 to R137) and what
adds to TXLOG (R138). -/

namespace Sys2Proof.Machine

/-! ### The device's byte -/

theorem rxFull_eq_false_iff (s : State) :
    rxFull s = false ↔ ∀ cap, s.par.rxCap = some cap → s.rxq.length < cap := by
  unfold rxFull
  cases s.par.rxCap <;> simp

/-- A queue within its capacity is full exactly where it has its capacity's length (R30, log 10). -/
theorem rxFull_eq_true_iff {s : State} (h : s.rxWithinCap) :
    rxFull s = true ↔ s.par.rxCap = some s.rxq.length := by
  have hle := s.rxWithinCap_iff.1 h
  cases hcap : s.par.rxCap with
  | none => simp [rxFull, hcap]
  | some cap =>
    have := hle cap hcap
    simp only [rxFull, hcap, decide_eq_true_eq, Option.some.injEq]
    omega

/-- In a running block the device's turn is its arrival. -/
theorem step_of_arrival {s : State} {v : Byte} (hrun : s.running) (hdev : s.nextTurn = .device v) :
    step s = .next (s.turnTaken.arrival v) := by
  rw [step_of_device hdev]
  exact whenRunning_of_running (s := s.turnTaken) hrun _

/-- On a configured connection the device's byte is received as sent. -/
theorem arrival_of_configured {s : State} (hopen : s.conn = .opened) (hconf : s.mode ≠ .unconfigured)
    (v : Byte) : s.arrival v = s.receive v := by
  rcases arrival_cases s v with ⟨hc, -⟩ | ⟨-, hm, -⟩ | ⟨-, -, ht⟩
  · simp [hopen] at hc
  · exact absurd hm hconf
  · exact ht

/-- A byte received within the capacity: FAULT at the capacity, one byte at the end of RXQ otherwise. -/
theorem receive_of_withinCap {s : State} (h : s.rxWithinCap) (v : Byte) :
    s.receive v = if s.par.rxCap = some s.rxq.length then s.raiseInArrival .rxOverflow
      else s.enqueue v := by
  rw [State.receive, if_congr (rxFull_eq_true_iff h) rfl rfl]

/-- Settles O9: the arrival by CONN and MODE, and then the received byte by the room in RXQ. -/
theorem stepTakesTheDevicesByte : Obligations.StepTakesTheDevicesByte := by
  intro s v hrun hcap hdev
  rw [step_of_arrival hrun hdev]
  rcases arrival_cases s.turnTaken v with ⟨hc, ht⟩ | ⟨hc, hm, ht⟩ | ⟨hc, hm, ht⟩ <;>
    rw [State.turnTaken_conn] at hc <;> rw [ht]
  · rw [if_pos hc]
  · rw [if_neg (by simp [hc]), if_pos (by exact hm), receive_of_withinCap (by exact hcap)]; rfl
  · rw [if_neg (by simp [hc]), if_neg (by exact hm), receive_of_withinCap (by exact hcap)]; rfl

/-- A byte that arrives on a configured connection with room stands at the end of RXQ (R133). -/
theorem step_of_arrival_with_room {s : State} {v : Byte} (hrun : s.running) (hopen : s.conn = .opened)
    (hconf : s.mode ≠ .unconfigured) (hroom : rxFull s = false) (hdev : s.nextTurn = .device v) :
    step s = .next (s.turnTaken.enqueue v) := by
  rw [step_of_arrival hrun hdev, arrival_of_configured (by exact hopen) (by exact hconf), State.receive]
  exact congrArg Host.Outcome.next (if_neg (by exact ne_true_of_eq_false hroom))

/-- Settles O51, by induction on the bytes sent: each has room and goes to the end of RXQ
(`step_of_arrival_with_room`). -/
theorem arrivalsKeepTheirOrder : Obligations.ArrivalsKeepTheirOrder := by
  intro s b
  induction b generalizing s with
  | nil =>
    intro q _ _ _ _ hsched
    simp only [List.map_nil, List.nil_append] at hsched
    simp [run, ← hsched]
  | cons v b ih =>
    intro q hrun hopen hconf hfit hsched
    simp only [List.length_cons] at hfit
    have hroom : rxFull s = false := (rxFull_eq_false_iff s).2 fun cap hcap => by
      have := hfit cap hcap
      omega
    have hstep := step_of_arrival_with_room hrun hopen hconf hroom (State.nextTurn_of_cons hsched)
    rw [State.turnTaken_of_cons hsched] at hstep
    rw [List.length_cons, run_succ hstep]
    refine (ih ({ s with sched := b.map Turn.device ++ q }.enqueue v) q hrun hopen hconf
      (fun cap hcap => ?fits) rfl).trans ?_
    case fits =>
      have := hfit cap hcap
      simp only [State.enqueue_rxq, List.length_append, List.length_cons, List.length_nil]
      omega
    simp [State.enqueue]

/-! ### What adds to TXLOG -/

/-- What a WRITE with operands `o` that is tried in `s` has sent and answered in `t`: all of its ARG and OK,
or an initial part of it and IO_ERROR (R128). -/
def SentBy (o : Operands) (s t : State) : Prop :=
  ∃ (x : Bytes) (r : Rsp), t.txlog = s.txlog ++ x ∧ t.rsp = some r ∧
    ((r.status = .ok ∧ x = o.arg) ∨ (r.status = .ioError ∧ x <+: o.arg))

/-- WRITE's own rule leaves TXLOG, or sends and answers. -/
theorem writeRule_sends (o : Operands) (s : State) :
    (writeRule s o.arg).txlog = s.txlog ∨ SentBy o s (writeRule s o.arg) := by
  rcases writeRule_cases s o.arg with ⟨-, ht⟩ | ⟨-, -, ht⟩ | ⟨-, -, -, ht⟩ | ⟨-, -, -, ht⟩ <;> rw [ht]
  · exact .inl rfl
  · exact .inl rfl
  · exact .inr ⟨_, _, rfl, rfl, .inr ⟨rfl, sentPrefix_isPrefix s o.arg⟩⟩
  · exact .inr ⟨_, _, rfl, rfl, .inl ⟨rfl, rfl⟩⟩

/-- An instruction leaves TXLOG, but for a WRITE that sends and answers. -/
theorem exec_txlog {i : Instr} {s t : State} (h : exec i s = .next t) :
    t.txlog = s.txlog ∨ ∃ o, i = .write o ∧ SentBy o s t := by
  rcases (exec_writtenBy h).txlog with hsame | ⟨o, -, rfl, -, -⟩
  · exact .inl hsame
  · rcases exec_next h with ⟨-, -, rfl⟩ | ⟨-, -, rfl⟩ | ⟨-, rfl⟩
    · exact (writeRule_sends o s).imp_right fun hsent => ⟨o, rfl, hsent⟩
    · exact .inl rfl
    · exact .inl rfl

/-- Trying a command leaves TXLOG, but for a WRITE that sends and answers. -/
theorem runCommand_txlog {c : Cmd} {s t : State} (h : runCommand c s = .next t) :
    t.txlog = s.txlog ∨ ∃ o, decodeCommand c = .instr (.write o) ∧ SentBy o s t := by
  rcases runCommand_next h with ⟨i, hdec, hexec⟩ | ⟨r, -, hill⟩
  · exact (exec_txlog hexec).imp_right fun ⟨o, hi, hsent⟩ => ⟨o, hi ▸ hdec, hsent⟩
  · rcases illegalCommand_next hill with ⟨-, rfl⟩ | ⟨-, rfl⟩ <;> exact .inl rfl

/-- At the turn of the host and the block TXLOG changes only by the WRITE at the port, or the one the host
issues. -/
theorem blockTurn_txlog {s t : State} (h : blockTurn s = .next t) :
    t.txlog = s.txlog ∨ ∃ c o,
      (s.port = some c ∨ (s.port = none ∧ ∃ k, hostMove s.rsp s.host = .issue c k)) ∧
      decodeCommand c = .instr (.write o) ∧ SentBy o s t := by
  rcases blockTurn_next h with ⟨c, hp, hrun⟩ | ⟨c, k, hp, -, hmove, hrun⟩ | ⟨k, -, -, -, rfl⟩ |
    ⟨-, -, rfl⟩
  · exact (runCommand_txlog hrun).imp_right fun ⟨o, hdec, hsent⟩ => ⟨c, o, .inl hp, hdec, hsent⟩
  · exact (runCommand_txlog hrun).imp_right fun ⟨o, hdec, hsent⟩ =>
      ⟨c, o, .inr ⟨hp, k, hmove⟩, hdec, hsent⟩
  · exact .inl rfl
  · exact .inl rfl

/-- The device's byte leaves TXLOG. -/
theorem receive_txlog (s : State) (v : Byte) : (s.receive v).txlog = s.txlog := by
  rcases receive_cases s v with ⟨-, ht⟩ | ⟨-, ht⟩ <;> rw [ht] <;> rfl

theorem arrive_txlog {s t : State} {v : Byte} (h : arrive s v = .next t) : t.txlog = s.txlog := by
  rcases arrive_next h with ⟨-, rfl⟩ | ⟨-, rfl⟩
  · rcases arrival_cases s v with ⟨-, ht⟩ | ⟨-, -, ht⟩ | ⟨-, -, ht⟩ <;> rw [ht]
    · exact receive_txlog s.drawn _
    · exact receive_txlog s v
  · rfl

/-- Settles O49: the block's turn adds by a WRITE alone (`blockTurn_txlog`), the device's leaves TXLOG
(`arrive_txlog`), and reset empties it. -/
theorem transmitLogOnlyGrows : Obligations.TransmitLogOnlyGrows := by
  intro s t hstep
  rcases step_next hstep with ⟨hturn, hblock⟩ | ⟨v, -, harrive⟩ | ⟨hreset, rfl⟩
  · rcases blockTurn_txlog hblock with hsame | ⟨c, o, hc, hdec, x, r, hsent⟩
    · exact .inr (.inl hsame)
    · exact .inr (.inr ⟨c, o, x, r, hturn, hc, hdec, hsent⟩)
  · exact .inr (.inl (arrive_txlog (s := s.turnTaken) harrive))
  · exact .inl ⟨hreset, rfl⟩

end Sys2Proof.Machine
end

section
/-! SUPPORT. The transport family, third part: the READ at the port, held or not (42_transport.md R129,
R130, R139 to R141). -/

namespace Sys2Proof.Machine

/-! ### A READ at the port -/

/-- The command has its response, OK or IO_ERROR: how a READ on a configured connection ends (R130). -/
def State.Answered (t : State) : Prop :=
  t.port = none ∧ ∃ r, t.rsp = some r ∧ (r.status = .ok ∨ r.status = .ioError)

/-- A READ that the block may try stands at the port: the block runs, the connection is open and the
READ's ARG fits the carrier. -/
structure ReadPending (s : State) : Prop where
  running : s.running
  opened : s.conn = .opened
  atPort : ∃ c o, s.port = some c ∧ decodeCommand c = .instr (.read o) ∧ s.carries o.arg

/-- At the block's turn a pending READ does READ's own rule. -/
theorem ReadPending.step_of_atBlockTurn {s : State} (h : ReadPending s) (hturn : s.atBlockTurn) :
    step s = .next (readRule s.turnTaken) := by
  obtain ⟨c, o, hport, hdec, hcar⟩ := h.atPort
  rw [step_of_pending hturn hport, runCommand_of_decode hdec]
  exact exec_of_running (.read o) s.turnTaken h.running hcar

/-! ### Streaming mode -/

/-- READ's own rule in Streaming mode holds with RXQ empty, or answers, and an OK answer has a byte. -/
theorem readRule_of_streaming {s : State} (hm : s.mode = .streaming) :
    ((readRule s).rsp = s.rsp ∧ (readRule s).port = s.port ∧ (readRule s).rxq = s.rxq ∧ s.rxq = []) ∨
    ∃ r, (readRule s).rsp = some r ∧ (readRule s).port = none ∧
      (r.status = .ok → ∃ v, r.opt = some v) := by
  rcases readRule_cases s with ⟨-, ht⟩ | ⟨-, -, ht⟩ | ⟨-, hq, -, -, ht⟩ | ⟨k, -, -, hhs, -, -⟩ |
    ⟨-, -, -, -, ht⟩ | ⟨v, q, -, -, -, -, -, ht⟩ | ⟨-, hconf, henabled, -, hq, ht⟩
  case inr.inr.inr.inl => simp [hm] at hhs
  all_goals rw [ht]
  · exact .inr ⟨_, rfl, rfl, nofun⟩
  · exact .inr ⟨_, rfl, rfl, nofun⟩
  · exact .inl ⟨rfl, rfl, rfl, hq⟩
  · exact .inr ⟨_, rfl, rfl, nofun⟩
  · exact .inr ⟨_, rfl, rfl, fun _ => ⟨v, rfl⟩⟩
  · have he : readEmpty s = s.drawn.holdOn .untilByte := by simp [readEmpty, hm]
    rw [he]
    exact .inl ⟨rfl, rfl, rfl, hq⟩

/-- Settles O52: the length check's fault is an answer, and READ's own rule is `readRule_of_streaming`. -/
theorem streamingReadNeverTimesOut : Obligations.StreamingReadNeverTimesOut := by
  intro o s t hm hrun hexec
  rcases exec_next hexec with ⟨-, -, rfl⟩ | ⟨-, -, rfl⟩ | ⟨hhalt, -⟩
  · exact readRule_of_streaming hm
  · exact .inr ⟨_, rfl, rfl, nofun⟩
  · exact absurd hhalt (by simp [show s.fault = 0x00 from hrun])

/-! ### Turns in which no agent but the block moves -/

/-- In the next `n` steps no agent but the host and the block moves. -/
def BlockAlone (n : Nat) (s : State) : Prop :=
  ∀ (k : Nat) (t : State), k < n → run k s = .next t → t.atBlockTurn

theorem BlockAlone.atBlockTurn {n : Nat} {s : State} (h : BlockAlone (n + 1) s) : s.atBlockTurn :=
  h 0 s n.succ_pos rfl

theorem BlockAlone.next {n : Nat} {s t : State} (h : BlockAlone (n + 1) s) (hstep : step s = .next t) :
    BlockAlone n t := fun k u hk hrun =>
  h (k + 1) u (Nat.succ_lt_succ hk) ((run_succ hstep k).trans hrun)

/-- Turns taken change the schedule alone. -/
theorem turnTaken_iterate_eq (n : Nat) (s : State) :
    State.turnTaken^[n] s = { s with sched := (State.turnTaken^[n] s).sched
                                     stretches := (State.turnTaken^[n] s).stretches } := by
  induction n generalizing s with
  | zero => rfl
  | succ n ih =>
    rw [Function.iterate_succ_apply]
    exact ih s.turnTaken

/-- How the READ holds is no part of the schedule. -/
theorem turnTaken_iterate_holdOn (n : Nat) (s : State) (x : Hold) :
    State.turnTaken^[n] (s.holdOn x) = (State.turnTaken^[n] s).holdOn x :=
  Function.Commute.iterate_left (f := State.turnTaken) (g := fun s => s.holdOn x) (fun _ => rfl) n s

/-- The counter of draws is no part of the schedule. -/
theorem turnTaken_iterate_drawn (n : Nat) (s : State) :
    State.turnTaken^[n] s.drawn = (State.turnTaken^[n] s).drawn :=
  Function.Commute.iterate_left (f := State.turnTaken) (g := State.drawn) (fun _ => rfl) n s

/-- A READ held in Streaming mode stays held while RXQ is empty (R141). -/
theorem run_of_streaming_held {n : Nat} {s : State} (h : ReadPending s) (hq : s.rxq = [])
    (hm : s.mode = .streaming) (hheld : s.hold ≠ none) (halone : BlockAlone n s) :
    run n s = .next (State.turnTaken^[n] s) := by
  induction n generalizing s with
  | zero => rfl
  | succ n ih =>
    have hstep : step s = .next s.turnTaken := by
      rw [h.step_of_atBlockTurn halone.atBlockTurn]
      obtain ⟨x, hx⟩ := Option.ne_none_iff_exists'.1 hheld
      simp [readRule, stillHeld, h.opened, hm, hq, hx]
    rw [run_succ hstep, Function.iterate_succ_apply]
    exact ih ⟨h.running, h.opened, h.atPort⟩ hq hm hheld (halone.next hstep)

/-- A READ held in Handshake mode waits while RXQ is empty and turns of the timer's wait are left
(R130, log 7). -/
theorem run_of_handshake_held {n k : Nat} {s : State} (h : ReadPending s) (hq : s.rxq = [])
    (hm : s.mode = .handshake) (hheld : s.hold = some (.untilByteOrTimer (n + k)))
    (halone : BlockAlone n s) :
    run n s = .next ((State.turnTaken^[n] s).holdOn (.untilByteOrTimer k)) := by
  induction n generalizing s with
  | zero =>
    rw [Nat.zero_add] at hheld
    simp [run, State.holdOn, ← hheld]
  | succ n ih =>
    rw [Nat.succ_add] at hheld
    have hstep : step s = .next (s.turnTaken.holdOn (.untilByteOrTimer (n + k))) := by
      rw [h.step_of_atBlockTurn halone.atBlockTurn]
      simp [readRule, stillHeld, h.opened, hm, hq, hheld]
    rw [run_succ hstep, Function.iterate_succ_apply,
      ih (s := s.turnTaken.holdOn _) ⟨h.running, h.opened, h.atPort⟩ hq hm rfl (halone.next hstep),
      turnTaken_iterate_holdOn]
    rfl

/-- A READ that begins to hold in Streaming mode draws once and then stays held. -/
theorem run_of_streaming_fresh {n : Nat} {s : State} (h : ReadPending s) (hq : s.rxq = [])
    (hm : s.mode = .streaming) (hfresh : s.hold = none) (hio : s.par.ioErrors = false)
    (halone : BlockAlone (n + 1) s) :
    run (n + 1) s = .next ((State.turnTaken^[n + 1] s).drawn.holdOn .untilByte) := by
  have hstep : step s = .next (s.turnTaken.drawn.holdOn .untilByte) := by
    rw [h.step_of_atBlockTurn halone.atBlockTurn]
    simp [readRule, stillHeld, readStep, readEmpty, transferFails, h.opened, hm, hq, hfresh, hio]
  rw [run_succ hstep, run_of_streaming_held (s := s.turnTaken.drawn.holdOn _)
      ⟨h.running, h.opened, h.atPort⟩ hq hm nofun (halone.next hstep),
    turnTaken_iterate_holdOn, turnTaken_iterate_drawn, Function.iterate_succ_apply]

/-- Settles O54: the three READs that hold, by what their turns do (`run_of_streaming_held`,
`run_of_streaming_fresh`, `run_of_handshake_held`); the schedule goes on by `n` turns in each. -/
theorem silentStreamingReadHolds : Obligations.SilentStreamingReadHolds := by
  intro s c o n hrun hcar hopen hq hport hdec halone
  have h : ReadPending s := ⟨hrun, hopen, c, o, hport, hdec, hcar⟩
  have hturns := turnTaken_iterate_eq n s
  refine ⟨(State.turnTaken^[n] s).sched, (State.turnTaken^[n] s).stretches,
    fun hm hheld => ?held, fun hm hfresh hio hn => ?fresh, fun k hm hheld => ?handshake⟩
  case held => exact (run_of_streaming_held h hq hm hheld halone).trans (congrArg _ hturns)
  case fresh =>
    obtain ⟨m, rfl⟩ := Nat.exists_eq_succ_of_ne_zero hn.ne'
    exact (run_of_streaming_fresh h hq hm hfresh hio halone).trans
      (congrArg (fun t : State => Host.Outcome.next (t.drawn.holdOn .untilByte)) hturns)
  case handshake =>
    exact (run_of_handshake_held h hq hm hheld halone).trans
      (congrArg (fun t : State => Host.Outcome.next (t.holdOn (.untilByteOrTimer k))) hturns)

/-! ### Handshake mode -/

/-- A READ stands at the port in Handshake mode, and the block may try it. -/
structure HandshakeReadPending (s : State) : Prop extends ReadPending s where
  handshake : s.mode = .handshake

/-- One turn has passed from `s` to `t`, and the Handshake READ is still pending. -/
structure StillPending (s t : State) : Prop extends HandshakeReadPending t where
  par : t.par = s.par
  sched : t.sched = s.turnTaken.sched
  stretches : t.stretches = s.turnTaken.stretches

/-- READ's own rule in Handshake mode answers, or waits with a turn less left to wait. -/
theorem readRule_of_handshake {s : State} (hopen : s.conn = .opened) (hm : s.mode = .handshake) :
    (readRule s).Answered ∨ ∃ k d, timerLeft s = k + 1 ∧
      readRule s = { s with draws := d, hold := some (.untilByteOrTimer k) } := by
  rcases readRule_cases s with ⟨hc, -⟩ | ⟨-, hun, -⟩ | ⟨-, -, hst, -⟩ | ⟨k, -, -, -, hh, ht⟩ |
    ⟨-, -, -, -, ht⟩ | ⟨v, q, -, -, -, -, -, ht⟩ | ⟨-, -, -, -, -, ht⟩
  · simp [hopen] at hc
  · simp [hm] at hun
  · simp [hm] at hst
  · exact .inr ⟨k, s.draws, by simp [timerLeft, hh], ht⟩
  · exact .inl (ht ▸ ⟨rfl, _, rfl, .inr rfl⟩)
  · exact .inl (ht ▸ ⟨rfl, _, rfl, .inl rfl⟩)
  · rcases readEmpty_cases s with ⟨-, -, he⟩ | ⟨k, -, hleft, he⟩ | ⟨hhs, -⟩
    · exact .inl (ht.trans he ▸ ⟨rfl, _, rfl, .inl rfl⟩)
    · exact .inr ⟨k, s.draws + 1, hleft, ht.trans he⟩
    · exact absurd hm hhs

/-- All that a turn can do to a pending Handshake READ: a reset comes; the block's turn answers it, or
takes one off its wait; the device's byte overflows RXQ, or stands in it (R130, R133, R134, R140). -/
theorem HandshakeReadPending.step_cases {s : State} (h : HandshakeReadPending s) :
    s.nextTurn = .reset ∨
    (s.nextTurn = .block ∧ ∃ t, step s = .next t ∧
      (t.Answered ∨ (StillPending s t ∧ timerLeft s = timerLeft t + 1 ∧ t.rxq = s.rxq))) ∨
    (∃ v, s.nextTurn = .device v ∧ ∃ t, step s = .next t ∧
      ((rxFull s = true ∧ t.fault = 0x07) ∨
        (StillPending s t ∧ timerLeft t = timerLeft s ∧ t.rxq = s.rxq ++ [v]))) := by
  cases hturn : s.nextTurn with
  | reset => exact .inl rfl
  | block =>
    refine .inr (.inl ⟨rfl, _, h.step_of_atBlockTurn hturn, ?_⟩)
    rcases readRule_of_handshake (s := s.turnTaken) h.opened h.handshake with
      hans | ⟨k, d, hleft, ht⟩
    · exact .inl hans
    · rw [ht]
      exact .inr ⟨⟨⟨⟨h.running, h.opened, h.atPort⟩, h.handshake⟩, rfl, rfl, rfl⟩, hleft, rfl⟩
  | device v =>
    refine .inr (.inr ⟨v, rfl, _, step_of_arrival h.running hturn, ?_⟩)
    rw [arrival_of_configured (s := s.turnTaken) h.opened (by simp [h.handshake])]
    rcases receive_cases s.turnTaken v with ⟨hfull, ht⟩ | ⟨-, ht⟩ <;> rw [ht]
    · exact .inl ⟨hfull, rfl⟩
    · exact .inr ⟨⟨⟨⟨h.running, h.opened, h.atPort⟩, h.handshake⟩, rfl, rfl, rfl⟩, rfl, rfl⟩

/-- The turns `q` are enough for the READ pending in `s`: more of them are the block's than the READ has
left to wait, none is a reset, and RXQ has room for all that arrives. -/
structure EnoughTurns (s : State) (q : List Turn) : Prop where
  wait : timerLeft s < q.count .block
  noReset : .reset ∉ q
  room : ∀ cap, s.par.rxCap = some cap →
    s.rxq.length + (q.filter fun u => u ≠ .block).length ≤ cap

/-- Of turns that are enough the first answers the READ, or leaves it pending with turns that are
enough. -/
theorem HandshakeReadPending.step_of_enough {s : State} {u : Turn} {q : List Turn}
    (h : HandshakeReadPending s) (hnext : s.nextTurn = u) (henough : EnoughTurns s (u :: q)) :
    ∃ t, step s = .next t ∧ (t.Answered ∨ (StillPending s t ∧ EnoughTurns t q)) := by
  obtain ⟨hwait, hnone, hroom⟩ := henough
  obtain ⟨hne, hreset⟩ := not_or.1 (List.mem_cons.not.1 hnone)
  rcases h.step_cases with hr | ⟨hb, t, hstep, hans | ⟨ht, hleft, hq⟩⟩ |
    ⟨v, hv, t, hstep, ⟨hfull, -⟩ | ⟨ht, hleft, hq⟩⟩
  · exact absurd (hr.symm.trans hnext) hne
  · exact ⟨t, hstep, .inl hans⟩
  · obtain rfl := hnext.symm.trans hb
    rw [List.count_cons_self] at hwait
    refine ⟨t, hstep, .inr ⟨ht, by omega, hreset, fun cap hcap => ?_⟩⟩
    rw [hq]
    exact hroom cap (ht.par ▸ hcap)
  all_goals
    obtain rfl := hnext.symm.trans hv
    rw [List.filter_cons_of_pos (by simp)] at hroom
    simp only [List.length_cons] at hroom
  · have hspace : rxFull s = false := (rxFull_eq_false_iff s).2 fun cap hcap => by
      have := hroom cap hcap
      omega
    exact absurd hfull (by simp [hspace])
  · rw [List.count_cons_of_ne (by simp)] at hwait
    refine ⟨t, hstep, .inr ⟨ht, by omega, hreset, fun cap hcap => ?_⟩⟩
    have := hroom cap (ht.par ▸ hcap)
    simp only [hq, List.length_append, List.length_cons, List.length_nil]
    omega

/-- A pending Handshake READ is answered within turns that are enough, by induction on them. -/
theorem HandshakeReadPending.answered_within {s : State} {q : List Turn} (h : HandshakeReadPending s)
    (hsched : s.sched = q) (henough : EnoughTurns s q) :
    ∃ n t, n ≤ q.length ∧ run n s = .next t ∧ t.Answered := by
  induction q generalizing s with
  | nil => exact absurd henough.wait (Nat.not_lt_zero _)
  | cons u q ih =>
    have hrest : s.turnTaken.sched = q := by rw [State.turnTaken_of_cons hsched]
    obtain ⟨t, hstep, hans | ⟨ht, henough⟩⟩ :=
      h.step_of_enough (State.nextTurn_of_cons hsched) henough
    · exact ⟨1, t, Nat.succ_pos _, run_succ hstep 0, hans⟩
    · obtain ⟨n, x, hn, hrun, hans⟩ :=
        ih ht.toHandshakeReadPending (ht.sched.trans hrest) henough
      exact ⟨n + 1, x, Nat.succ_le_succ hn, (run_succ hstep n).trans hrun, hans⟩

/-- How many turns there are at most before one of the block's: those scheduled, and with none of the
block's among them those of the stretch drawn after them (log 1). -/
def turnsToBlock (s : State) : Nat :=
  s.sched.length + if .block ∈ s.sched then 0 else (Config.turns s.stretches).length + 1

/-- A turn that is not the block's brings the block's nearer. -/
theorem turnsToBlock_lt {s t : State} (hturn : s.nextTurn ≠ .block)
    (hsched : t.sched = s.turnTaken.sched) (hstretches : t.stretches = s.turnTaken.stretches) :
    turnsToBlock t < turnsToBlock s := by
  cases hs : s.sched with
  | nil =>
    cases hstretch : Config.turns s.stretches with
    | nil => simp [State.nextTurn, State.plan, hs, hstretch] at hturn
    | cons u r => simp [turnsToBlock, hsched, State.plan, hs, hstretch]
  | cons u r =>
    rw [State.nextTurn_of_cons hs] at hturn
    rw [State.turnTaken_of_cons hs] at hsched hstretches
    simp [turnsToBlock, hsched, hstretches, hs, hturn.symm]

/-- The READ pending in `s` ends: with its response, by a byte that overflows a bounded RXQ, or by a
reset (R134, R140, R240). -/
def ReadEnds (s : State) : Prop :=
  ∃ n t, run n s = .next t ∧
    (t.Answered ∨ (t.fault = 0x07 ∧ s.par.rxCap ≠ none) ∨ t.nextTurn = .reset)

theorem ReadEnds.of_step {s t : State} (hstep : step s = .next t) (hpar : t.par = s.par)
    (h : ReadEnds t) : ReadEnds s := by
  obtain ⟨n, x, hrun, hend⟩ := h
  exact ⟨n + 1, x, (run_succ hstep n).trans hrun, hpar ▸ hend⟩

/-- Each turn ends the READ or brings its end nearer: the block's by its wait, the device's by the turns
to the block's next. -/
theorem HandshakeReadPending.readEnds {s : State} (h : HandshakeReadPending s) : ReadEnds s := by
  rcases h.step_cases with hr | ⟨-, t, hstep, hans | ⟨ht, hleft, -⟩⟩ |
    ⟨v, hv, t, hstep, ⟨hfull, hfault⟩ | ⟨ht, hleft, -⟩⟩
  · exact ⟨0, s, rfl, .inr (.inr hr)⟩
  · exact ⟨1, t, run_succ hstep 0, .inl hans⟩
  · exact ht.toHandshakeReadPending.readEnds.of_step hstep ht.par
  · exact ⟨1, t, run_succ hstep 0, .inr (.inl ⟨hfault, fun hcap => by simp [rxFull, hcap] at hfull⟩)⟩
  · have hturns := turnsToBlock_lt (by simp [hv]) ht.sched ht.stretches
    exact ht.toHandshakeReadPending.readEnds.of_step hstep ht.par
termination_by (timerLeft s, turnsToBlock s)
decreasing_by
  · exact Prod.Lex.left _ _ (by omega)
  · exact hleft ▸ Prod.Lex.right _ hturns

/-- Settles O53: turns are enough with one more of the block's than the READ has left to wait
(`HandshakeReadPending.answered_within`); whatever comes, each turn brings the READ's end nearer
(`HandshakeReadPending.readEnds`). -/
theorem handshakeReadCompletes : Obligations.HandshakeReadCompletes := by
  intro s c o hrun hcar hopen hm hport hdec
  have h : HandshakeReadPending s := ⟨⟨hrun, hopen, c, o, hport, hdec, hcar⟩, hm⟩
  refine ⟨⟨timerLeft s + 1, fun q hwait hreset hroom => ?_⟩, h.readEnds⟩
  have hq : HandshakeReadPending { s with sched := q } := ⟨⟨h.running, h.opened, h.atPort⟩, hm⟩
  obtain ⟨n, t, hn, hrun, hport, r, hanswer⟩ := hq.answered_within rfl ⟨hwait, hreset, hroom⟩
  exact ⟨n, t, r, hn, hrun, hport, hanswer⟩

end Sys2Proof.Machine
end

section
/-! SUPPORT. The framer family, first part: the encoder, the decoder and the classifier answer by their
rules (43_framer.md R171 to R176), whatever the state (R170), PARSE inverts the encoder (R179), and a
wire row's carrier runs as the row. -/

namespace Sys2Proof.Machine

/-! ### BUILD -/

/-- Settles O27: words and lines by the map and the assembler; in a running block the length check
decides between the operation's own rule and ARG_TOO_LONG. -/
theorem encodersBuildTheFixedFrames : Obligations.EncodersBuildTheFixedFrames := by
  refine ⟨fun o => ?words, ⟨⟨_, _, _, rfl⟩, ⟨_, _, _, rfl⟩, ⟨_, _, _, rfl⟩⟩,
    fun o s hrun hcar => ?fits, fun i o s hi hrun hlong => ?tooLong⟩
  case words => and_intros <;> exact decodeCommand_of_encode rfl
  case fits =>
    exact ⟨exec_of_running (.buildProbe o) s hrun hcar, exec_of_running (.buildErase o) s hrun hcar,
      exec_of_running (.buildTerm o) s hrun hcar⟩
  case tooLong => rcases hi with rfl | rfl | rfl <;> exact exec_of_tooLong _ s hrun hlong

/-- BUILD.DATA of a whole block answers its frame (R173). -/
theorem ruleState_buildData {o : Operands} (hlen : o.arg.length = 16) (s : State) :
    ruleState (.buildData o) s = s.respond (okRsp (data := builtDataFrame o.arg)) :=
  if_neg (not_not_intro hlen)

/-- BUILD.DATA of any other length faults (R173). -/
theorem ruleState_buildData_of_length_ne {o : Operands} (hlen : o.arg.length ≠ 16) (s : State) :
    ruleState (.buildData o) s = s.raise .badLength :=
  if_pos hlen

/-- Settles O28: past the length check the length of the ARG decides (`ruleState_buildData`,
`ruleState_buildData_of_length_ne`). -/
theorem buildDataFramesTheBlock : Obligations.BuildDataFramesTheBlock := by
  refine ⟨fun o => decodeCommand_of_encode rfl, fun b => ⟨0, .absent, rfl⟩, fun o s hrun hcar => ?_⟩
  rw [exec_of_running (.buildData o) s hrun hcar]
  exact ⟨fun hlen => congrArg _ (ruleState_buildData hlen s),
    fun hlen => congrArg _ (ruleState_buildData_of_length_ne hlen s)⟩

/-! ### PARSE -/

/-- PARSE of a Data frame gives the payload, and the checksum byte where it is wrong (R175). -/
theorem parseRsp_dataFrame {p : Bytes} (hp : p.length = 16) (c : Byte) :
    parseRsp (dataFrame p c) =
      if c = crc8 p then okRsp shapeData p else okRsp shapeBadChecksum p (some c) := by
  rw [parseRsp_eq_shapeRsp, decodeFrame_dataFrame hp]
  rfl

/-- PARSE of what is none of the four frames' shapes (R175). -/
theorem parseRsp_of_no_frame {s : Bytes} (hprobe : s ≠ [Config.probeByte])
    (herase : s ≠ [Config.eraseA, Config.eraseB]) (hterm : s ≠ [Config.termByte])
    (hdata : ∀ (p : Bytes) (c : Byte), p.length = 16 → s ≠ dataFrame p c) :
    parseRsp s = okRsp shapeMalformed := by
  rw [parseRsp_eq_shapeRsp]
  rcases decodeFrame_cases s with ⟨hs, -⟩ | ⟨hs, -⟩ | ⟨hs, -⟩ | ⟨p, c, hp, hs, -⟩ | hd
  · exact absurd hs hprobe
  · exact absurd hs herase
  · exact absurd hs hterm
  · exact absurd hs (hdata p c hp)
  · rw [hd]; rfl

/-- Settles O29: a running block answers `parseRsp` of the ARG, which names each frame, looks at a Data
frame's checksum byte (`parseRsp_dataFrame`) and calls the rest MALFORMED (`parseRsp_of_no_frame`). -/
theorem parseRecognisesExactlyTheFrames : Obligations.ParseRecognisesExactlyTheFrames := by
  refine ⟨fun o => decodeCommand_of_encode rfl, fun b => ⟨0, .absent, rfl⟩, fun o s hrun hcar =>
    ⟨parseRsp o.arg, exec_of_running (.parse o) s hrun hcar, fun h => ?probe, fun h => ?erase,
      fun h => ?term, fun p c hp h => ?data, parseRsp_of_no_frame⟩⟩
  case data => rw [h]; exact parseRsp_dataFrame hp c
  all_goals rw [h]; rfl

/-! ### CLASSIFY -/

/-- Settles O30: a running block answers `classifyRsp` of the option byte. -/
theorem classifyNamesTheResponse : Obligations.ClassifyNamesTheResponse := by
  refine ⟨fun o => decodeCommand_of_encode rfl, fun x => ⟨0, .lit [], rfl⟩, fun o s hrun hcar => ?_⟩
  rw [exec_of_running (.classify o) s hrun hcar, ruleState]
  cases o.opt <;> rfl

/-! ### The carrier of a wire row -/

/-- Settles O33: a command is its own carrier, a frame is brought by PARSE of its bytes, a response byte
by CLASSIFY of it (log 13). -/
theorem wireRowsRunThroughTheirCarrier : Obligations.WireRowsRunThroughTheirCarrier := by
  intro i
  cases henc : encode i with
  | command c => exact ⟨i, decodeCommand_of_encode henc, fun _ => rfl⟩
  | frame b =>
    refine ⟨.parse ⟨0, b, none⟩, decodeCommand_of_encode rfl, fun s => ?_⟩
    cases i
    case frameProbe | frameErase | frameData | frameTerm => cases henc; rfl
    all_goals cases henc
  | response v =>
    refine ⟨.classify ⟨0, [], some v⟩, decodeCommand_of_encode rfl, fun s => ?_⟩
    cases i
    case respAck | respNack | respTimeout => cases henc; rfl
    all_goals cases henc

/-! ### Purity -/

/-- Outside the serial mux an instruction has one answer, the same in every state, or raises BAD_LENGTH
in every state (R170). -/
theorem ruleState_uniform_of_not_mux {i : Instr} (h : i.isMux = false) :
    (∃ r : Rsp, r.status = .ok ∧ ∀ s, ruleState i s = s.respond r) ∨
    ∀ s, ruleState i s = s.raise .badLength := by
  cases i
  case openConn | closeConn | cfg | write | read | flush => cases h
  case buildData o =>
    by_cases hlen : o.arg.length = 16
    · exact .inl ⟨okRsp (data := _), rfl, ruleState_buildData hlen⟩
    · exact .inr (ruleState_buildData_of_length_ne hlen)
  case parse | frameProbe | frameErase | frameData | frameTerm =>
    exact .inl ⟨_, parseRsp_status _, fun _ => rfl⟩
  case classify | respAck | respNack | respTimeout =>
    exact .inl ⟨_, classifyRsp_status _, fun _ => rfl⟩
  case crc8 | buildProbe | buildErase | buildTerm => exact .inl ⟨okRsp (data := _), rfl, fun _ => rfl⟩

/-- No fault the block raises has the code 0x00 of a running block (10_state.md R32). -/
theorem FaultCode.code_ne_zero (f : FaultCode) : f.code ≠ 0x00 := by
  cases f <;> decide

/-- Settles O37: ARG_MAX and the ARG decide the length check, and past it the answer is the same in every
state (`ruleState_uniform_of_not_mux`). -/
theorem otherUnitsArePure : Obligations.OtherUnitsArePure := by
  intro i m hmux
  have hraise : ∀ f : FaultCode, (faultRsp f).status = .fault ∧ f.code = (faultRsp f).code ∧
      f.code ≠ 0x00 := fun f => ⟨rfl, rfl, f.code_ne_zero⟩
  by_cases hlen : (carriedArg i).length ≤ m
  · rcases ruleState_uniform_of_not_mux hmux with ⟨r, hok, hrule⟩ | hrule
    · refine ⟨r, 0x00, .inl ⟨hok, rfl⟩, fun s hrun hm => ?_⟩
      rw [exec_of_running i s hrun (hlen.trans hm.ge), hrule, ← hrun]
      rfl
    · refine ⟨_, _, .inr (hraise .badLength), fun s hrun hm => ?_⟩
      rw [exec_of_running i s hrun (hlen.trans hm.ge), hrule]
      rfl
  · refine ⟨_, _, .inr (hraise .argTooLong), fun s hrun hm => ?_⟩
    exact exec_of_tooLong i s hrun (hm.trans_lt (Nat.lt_of_not_le hlen))

/-! ### PARSE inverts the encoder -/

/-- PARSE takes a built Data frame and gives its block back (R179). -/
theorem parseRsp_builtDataFrame {b : Bytes} (hb : b.length = 16) :
    parseRsp (builtDataFrame b) = okRsp shapeData b := by
  rw [builtDataFrame, parseRsp_dataFrame hb, if_pos rfl]

theorem builtDataFrame_length {b : Bytes} (hb : b.length = 16) : (builtDataFrame b).length = 19 := by
  simp [builtDataFrame, hb]

/-- Distinct blocks have distinct Data frames, since PARSE reads the block off the frame (R179). -/
theorem builtDataFrame_injective {a b : Bytes} (ha : a.length = 16) (hb : b.length = 16)
    (h : builtDataFrame a = builtDataFrame b) : a = b := by
  have hparse := congrArg (fun s => (parseRsp s).data) h
  simpa [parseRsp_builtDataFrame, ha, hb, okRsp] using hparse

/-- PARSE of the DATA that the command before answered, where that is a string no longer than a frame:
it adds nothing but its answer. -/
theorem exec_parse_of_answered {i : Instr} {o' : Operands} {s t : State} {r : Rsp} {b : Bytes}
    (hanswer : exec i s = .next (s.respond (okRsp (data := b)))) (hb : b.length ≤ 19)
    (hrun : s.running) (hpar : s.par.wf) (hexec : exec i s = .next t) (hrsp : t.rsp = some r)
    (ho' : o'.arg = r.data) :
    exec (.parse o') t = .next { t with rsp := some (parseRsp b) } := by
  cases hanswer.symm.trans hexec
  cases hrsp
  have harg : o'.arg = b := ho'
  have hfits : s.carries o'.arg := harg ▸ carries_of_length_le hpar hb
  rw [← harg]
  exact exec_of_running (.parse o') (s.respond _) hrun hfits

/-- Settles O35: each BUILD answers its frame, which fits the carrier and which PARSE names
(`exec_parse_of_answered`, `parseRsp_builtDataFrame`); a Data frame is told from the others by its
length. -/
theorem parseInvertsTheEncoder : Obligations.ParseInvertsTheEncoder := by
  refine ⟨fun i o o' s t r hi hrun hcar hpar hexec hrsp ho' => ?inverts,
    fun a b ha hb h => builtDataFrame_injective ha hb h, by decide, fun a ha hmem => ?distinct⟩
  case inverts =>
    rcases hi with rfl | rfl | rfl | ⟨rfl, hlen⟩
    case inr.inr.inr =>
      have hanswer := exec_of_running (.buildData o) s hrun hcar
      rw [ruleState_buildData hlen] at hanswer
      rw [exec_parse_of_answered hanswer (builtDataFrame_length hlen).le hrun hpar hexec hrsp ho',
        parseRsp_builtDataFrame hlen]
      rfl
    all_goals
      exact exec_parse_of_answered (exec_of_running _ s hrun (by exact hcar)) (by decide) hrun hpar hexec
        hrsp ho'
  case distinct =>
    have hlen : (builtDataFrame a).length = 19 := builtDataFrame_length ha
    have hshort : ∀ b ∈ ([[0x01], [0x1A, 0x7F], [0x04]] : List Bytes), b.length ≠ 19 := by decide
    exact hshort _ hmem hlen

end Sys2Proof.Machine
end

section
/-! SUPPORT. The framer family, second part: CRC8 tells apart strings that differ in one byte, so PARSE
detects every single-bit error (43_framer.md R180), and the blocks of an image (R177, R178). -/

namespace Sys2Proof.Machine

/-! ### Errors in one byte -/

/-- A 0 bit takes only the running value 0x00 to 0x00, as the polynomial's top bit is set: checked on
each value. -/
theorem eq_zero_of_crc8Bit_false : ∀ c : Byte, crc8Bit c false = 0x00 → c = 0x00 := by decide

/-- So does the byte 0x00, whose bits are eight 0 bits (R180). -/
theorem eq_zero_of_crc8Byte_zero {c : Byte} (h : crc8Byte c 0x00 = 0x00) : c = 0x00 := by
  iterate 8 apply eq_zero_of_crc8Bit_false
  exact h

/-- The byte step gives 0x00 only where the byte equals the running value. -/
theorem crc8Byte_eq_zero_iff (c v : Byte) : crc8Byte c v = 0x00 ↔ c = v := by
  constructor
  · intro h
    have hxor : crc8Byte (c ^^^ v) 0x00 = 0x00 := by
      rw [crc8Byte_eq_xor] at h ⊢
      exact (congrArg (crc8Byte 0x00) BitVec.xor_zero).trans h
    exact BitVec.xor_eq_zero_iff.1 (eq_zero_of_crc8Byte_zero hxor)
  · rintro rfl
    exact crc8Byte_self c

/-- Byte steps that agree started from equal exclusive ors of value and byte (R104, R105). -/
theorem xor_eq_of_crc8Byte_eq {c d v w : Byte} (h : crc8Byte c v = crc8Byte d w) :
    c ^^^ d = v ^^^ w := by
  rw [← crc8Byte_eq_zero_iff, crc8Byte_xor, h]
  exact BitVec.xor_self

/-- Equal bytes keep distinct running values distinct. -/
theorem foldl_crc8Byte_injective {s : Bytes} {c d : Byte}
    (h : s.foldl crc8Byte c = s.foldl crc8Byte d) : c = d := by
  induction s generalizing c d with
  | nil => exact h
  | cons v s ih =>
    have hxor := xor_eq_of_crc8Byte_eq (ih h)
    rwa [BitVec.xor_self, BitVec.xor_eq_zero_iff] at hxor

/-- Two strings that differ in one byte have distinct checksums. -/
theorem eq_of_crc8_eq {a b : Bytes} {v w : Byte} (h : crc8 (a ++ v :: b) = crc8 (a ++ w :: b)) :
    v = w := by
  simp only [crc8, List.foldl_append, List.foldl_cons] at h
  have hxor := xor_eq_of_crc8Byte_eq (foldl_crc8Byte_injective h)
  rwa [BitVec.xor_self, eq_comm, BitVec.xor_eq_zero_iff] at hxor

/-- Writing another byte at one place changes the checksum. -/
theorem crc8_set_ne {s : Bytes} {j : Nat} (hj : j < s.length) {v : Byte} (hv : v ≠ s[j]) :
    crc8 (s.set j v) ≠ crc8 s := by
  intro h
  have hs : s = s.take j ++ s[j] :: s.drop (j + 1) := by simp
  rw [List.set_eq_take_append_cons_drop, if_pos hj] at h
  exact hv (eq_of_crc8_eq (h.trans (congrArg crc8 hs)))

/-- A string ends in the checksum of what stands before exactly where its own checksum is 0x00
(R104 item 4 and its converse). -/
theorem crc8_append_eq_zero_iff (p : Bytes) (c : Byte) : crc8 (p ++ [c]) = 0x00 ↔ c = crc8 p := by
  rw [crc8_append_singleton, crc8Byte_eq_zero_iff, eq_comm]

theorem flippedBit_ne_zero {k : Nat} (hk : k < 8) : 0x01#8 <<< k ≠ 0x00 := by
  interval_cases k <;> decide

/-- A string of 17 bytes is its first 16 and its last. -/
theorem eq_take_append_getD {b : Bytes} (hb : b.length = 17) : b = b.take 16 ++ [b.getD 16 0x00] := by
  have hlast : b.drop 16 = [b.getD 16 0x00] := by
    rw [List.drop_eq_getElem_cons (by omega), List.drop_eq_nil_of_le (by omega),
      List.getD_eq_getElem _ _ (by omega)]
  rw [← hlast, List.take_append_drop]

/-- PARSE reports a Data frame's shape whose payload and checksum byte together have a checksum other
than 0x00: the checksum byte is not the payload's (R175). -/
theorem parseRsp_of_crc8_ne_zero {b : Bytes} (hlen : b.length = 17) (hcrc : crc8 b ≠ 0x00) :
    parseRsp ([0x02] ++ b ++ [0x03]) =
      okRsp shapeBadChecksum (b.take 16) (some (b.getD 16 0x00)) := by
  have hwrong : b.getD 16 0x00 ≠ crc8 (b.take 16) := by
    rwa [ne_eq, ← crc8_append_eq_zero_iff, ← eq_take_append_getD hlen]
  have hframe : dataFrame (b.take 16) (b.getD 16 0x00) = [0x02] ++ b ++ [0x03] := by
    rw [dataFrame, List.append_assoc [Config.dataStart], ← eq_take_append_getD hlen]
    rfl
  rw [← hframe, parseRsp_dataFrame (by simp [hlen]), if_neg hwrong]

/-- A bit flipped in a payload or its checksum byte gives the two together a checksum other than 0x00
(R180). -/
theorem crc8_flipped_ne_zero {p : Bytes} {j k : Nat} (hj : j < p.length + 1) (hk : k < 8) :
    crc8 ((p ++ [crc8 p]).set j ((p ++ [crc8 p]).getD j 0x00 ^^^ (0x01#8 <<< k))) ≠ 0x00 := by
  have hj' : j < (p ++ [crc8 p]).length := by simp [hj]
  have hvalid : crc8 (p ++ [crc8 p]) = 0x00 := (crc8_append_eq_zero_iff p _).2 rfl
  have hflip : (p ++ [crc8 p]).getD j 0x00 ^^^ (0x01#8 <<< k) ≠ (p ++ [crc8 p])[j] := by
    rw [List.getD_eq_getElem _ _ hj']
    intro h
    exact flippedBit_ne_zero hk ((BitVec.xor_right_inj _).1 (h.trans BitVec.xor_zero.symm))
  exact fun h => crc8_set_ne hj' hflip (h.trans hvalid.symm)

/-- Settles O36: the flipped bit spoils the checksum of payload and checksum byte together
(`crc8_flipped_ne_zero`), so the checksum byte is wrong (`parseRsp_of_crc8_ne_zero`). -/
theorem singleBitErrorsAreDetected : Obligations.SingleBitErrorsAreDetected := by
  rintro p bad j k o s hp hj hk rfl hrun hcar harg
  rw [exec_of_running (.parse o) s hrun hcar, ruleState, harg,
    parseRsp_of_crc8_ne_zero (by simp [hp]) (crc8_flipped_ne_zero (by omega) hk)]
  rfl

/-! ### The blocks of an image -/

/-- The image followed by the padding that fills its last block (R177, R178). -/
def paddedImage (image : Bytes) : Bytes :=
  image ++ List.replicate (16 * blockCount image.length - image.length) Config.padByte

theorem length_le_blockCount (n : Nat) : n ≤ 16 * blockCount n := by
  simp only [blockCount, Config.blockSize]
  omega

theorem blockCount_padding_le (n : Nat) : 16 * blockCount n - n ≤ 15 := by
  simp only [blockCount, Config.blockSize]
  omega

theorem paddedImage_length (image : Bytes) :
    (paddedImage image).length = 16 * blockCount image.length := by
  have hle := length_le_blockCount image.length
  simp only [paddedImage, List.length_append, List.length_replicate]
  omega

/-- The `k`-th block is the `k`-th 16 bytes of the padded image. -/
theorem blockOf_eq_take_drop {image : Bytes} {k : Nat} (hk : k < blockCount image.length) :
    blockOf image k = ((paddedImage image).drop (16 * k)).take 16 := by
  have hfill := blockCount_padding_le image.length
  have hpad : 16 - (min (16 * k + 16) image.length - 16 * k) =
      min (16 - (image.length - 16 * k)) (16 * blockCount image.length - image.length) := by omega
  have hdata : (image.drop (16 * k)).take (min (16 * k + 16) image.length - 16 * k) =
      (image.drop (16 * k)).take 16 := by
    rw [List.take_eq_take_iff, List.length_drop]
    omega
  rw [paddedImage, List.drop_append_of_le_length (by omega), List.take_append, List.take_replicate,
    List.length_drop, ← hpad, ← hdata]
  rfl

theorem blockOf_length {image : Bytes} {k : Nat} (hk : k < blockCount image.length) :
    (blockOf image k).length = 16 := by
  rw [blockOf_eq_take_drop hk, List.length_take, List.length_drop, paddedImage_length]
  omega

/-- The first `n` blocks are the first `16 * n` bytes of the padded image. -/
theorem flatMap_blockOf {image : Bytes} {n : Nat} (hn : n ≤ blockCount image.length) :
    (List.range n).flatMap (blockOf image) = (paddedImage image).take (16 * n) := by
  induction n with
  | zero => rfl
  | succ n ih =>
    rw [List.range_succ, List.flatMap_append, ih (by omega), List.flatMap_singleton,
      blockOf_eq_take_drop hn, Nat.mul_succ, List.take_add]

/-- Settles O59: each block is 16 bytes of the padded image (`blockOf_eq_take_drop`), and all of them
together are the whole of it (`flatMap_blockOf`). -/
theorem blocksCoverTheImage : Obligations.BlocksCoverTheImage := by
  refine fun image => ⟨fun k hk => blockOf_length hk, length_le_blockCount _,
    blockCount_padding_le _, ?_⟩
  rw [flatMap_blockOf le_rfl, List.take_of_length_le (paddedImage_length image).le]
  rfl

end Sys2Proof.Machine
end

section
/-! SUPPORT. The exceptions family, first part: the turns (60_exceptions.md R210 to R212) and the halt
check, which stands before every command and every arrival (R219, R220, R222). -/

namespace Sys2Proof.Machine

/-! ### Whose turn it is -/

/-- With nothing scheduled, the turns are those of the stretch drawn with the block's after them, and a
turn taken draws that stretch (log 1). -/
theorem State.turn_of_nil {s : State} {p : List Turn} (hsched : s.sched = [])
    (hturns : Config.turns s.stretches = p) :
    s.nextTurn = (p ++ [Turn.block]).headD .block ∧
    s.turnTaken = { s with sched := (p ++ [Turn.block]).tail, stretches := s.stretches + 1 } := by
  subst hturns
  simp [State.nextTurn, State.turnTaken, State.stretchesAfter, State.plan_of_nil hsched, hsched]

/-- Settles O7: the pending command is tried (`step_of_pending`); the turn is the schedule's first, or the
first of the stretch drawn and the block's turn after it (`State.turn_of_nil`). -/
theorem stepRunsThePendingCommand : Obligations.StepRunsThePendingCommand := by
  refine ⟨fun s c i hturn hport hdec => ?pending,
    fun s u r hs => ⟨State.nextTurn_of_cons hs, State.turnTaken_of_cons hs⟩,
    fun s u r hs hturns => State.turn_of_nil hs hturns, fun s hs hturns => ?emptyStretch⟩
  case pending => exact (step_of_pending hturn hport).trans (runCommand_of_decode hdec _)
  case emptyStretch =>
    obtain ⟨hnext, htaken⟩ := State.turn_of_nil hs hturns
    exact ⟨hnext, htaken.trans (by simp [hs])⟩

/-! ### The halt check -/

/-- A command at the port, legal or not, passes the halt check before anything else (R220). -/
theorem runCommand_eq_whenRunning (c : Cmd) (s : State) : ∃ u, runCommand c s = whenRunning s u := by
  cases hdec : decodeCommand c with
  | instr i => exact ⟨_, (runCommand_of_decode hdec s).trans (exec_eq_command i s)⟩
  | reject e => exact ⟨_, runCommand_of_reject hdec s⟩

/-- With FAULT set the halt check lets nothing through, so a next state is the state before (R222). -/
theorem eq_of_whenRunning_of_faulted {s t u : State} (hfault : s.fault ≠ 0x00)
    (h : whenRunning s t = .next u) : u = s := by
  rcases whenRunning_next h with ⟨hrun, -⟩ | ⟨-, hu⟩
  · exact absurd hrun hfault
  · exact hu

/-- With FAULT set a command that is tried changes nothing. -/
theorem eq_of_runCommand_of_faulted {c : Cmd} {s t : State} (hfault : s.fault ≠ 0x00)
    (h : runCommand c s = .next t) : t = s := by
  obtain ⟨u, hu⟩ := runCommand_eq_whenRunning c s
  exact eq_of_whenRunning_of_faulted hfault (hu.symm.trans h)

/-- Settles O14: each instruction, each command at the port and each arrival is the halt check first,
which a halted block answers with no step and a reserved code with a refusal. -/
theorem haltedBlockTakesNoStep : Obligations.HaltedBlockTakesNoStep := by
  refine ⟨fun i s hhalt => ?haltedExec, fun s v hhalt hdev => ?haltedDevice,
    fun s c hhalt hturn hport => ?haltedPort, fun i s hres => ?reservedExec,
    fun s v hres hdev => ?reservedDevice, fun s c hres hturn hport => ?reservedPort⟩
  case haltedExec => exact (exec_eq_command i s).trans (command_of_halted hhalt _ _)
  case haltedDevice =>
    exact (step_of_device hdev).trans (whenRunning_of_halted (s := s.turnTaken) hhalt _)
  case haltedPort =>
    obtain ⟨u, hu⟩ := runCommand_eq_whenRunning c s.turnTaken
    rw [step_of_pending hturn hport, hu]
    exact whenRunning_of_halted (s := s.turnTaken) hhalt u
  case reservedExec => exact (exec_eq_command i s).trans (whenRunning_of_reserved hres _)
  case reservedDevice =>
    exact (step_of_device hdev).trans (whenRunning_of_reserved (s := s.turnTaken) hres _)
  case reservedPort =>
    obtain ⟨u, hu⟩ := runCommand_eq_whenRunning c s.turnTaken
    rw [step_of_pending hturn hport, hu]
    exact whenRunning_of_reserved (s := s.turnTaken) hres u

/-- Settles O15: with FAULT set a command tried and an arrival lead to the state before
(`eq_of_whenRunning_of_faulted`), the host moves the host and the port alone, and only reset is left. -/
theorem faultIsStickyUntilReset : Obligations.FaultIsStickyUntilReset := by
  intro s t hfault hstep
  rcases step_next hstep with ⟨-, hblock⟩ | ⟨v, -, harrive⟩ | ⟨hreset, rfl⟩
  · left
    rcases blockTurn_next hblock with ⟨c, -, hrun⟩ | ⟨c, k, hport, -, hmove, hrun⟩ |
      ⟨k, -, -, -, rfl⟩ | ⟨-, -, rfl⟩
    · obtain rfl := eq_of_runCommand_of_faulted (s := s.turnTaken) hfault hrun
      exact ⟨rfl, rfl, .inl rfl⟩
    · obtain rfl := eq_of_runCommand_of_faulted (s := s.turnTaken.issue c k) hfault hrun
      exact ⟨rfl, rfl, .inr ⟨hport, c, k, hmove, rfl⟩⟩
    · exact ⟨rfl, rfl, .inl rfl⟩
    · exact ⟨rfl, rfl, .inl rfl⟩
  · obtain rfl := eq_of_whenRunning_of_faulted (s := s.turnTaken) hfault harrive
    exact .inl ⟨rfl, rfl, .inl rfl⟩
  · exact .inr ⟨hreset, rfl⟩

end Sys2Proof.Machine
end

section
/-! SUPPORT. The exceptions family, second part: how a command ends, and what an arrival writes
(60_exceptions.md R216 to R218). -/

namespace Sys2Proof.Machine

/-! ### How a command ends -/

/-- Whether an instruction may answer with a STATUS when it raises no fault: all of them with OK, OPEN and
CFG with DEVICE_ERROR, WRITE and READ with IO_ERROR (R216). -/
def AnswersWith (i : Instr) : Status → Prop
  | .ok => True
  | .deviceError => (∃ o, i = .openConn o) ∨ ∃ m o, i = .cfg m o
  | .ioError => (∃ o, i = .write o) ∨ ∃ o, i = .read o
  | .fault => False

/-- How the instruction `i` ends in a running block: it raises a fault, which changes nothing else, or it
leaves FAULT and holds, or it leaves FAULT and answers (R216 to R218, 00_scope.md R11). -/
inductive EndsIn (i : Instr) (s : State) : State → Prop
  | raised (f : FaultCode) : EndsIn i s (s.raise f)
  | held {t : State} (hfault : t.fault = s.fault) (hrsp : t.rsp = s.rsp) : EndsIn i s t
  | answered {t : State} (r : Rsp) (hfault : t.fault = s.fault) (hrsp : t.rsp = some r)
      (hstatus : AnswersWith i r.status) : EndsIn i s t

theorem openRule_endsIn (s : State) (o : Operands) : EndsIn (.openConn o) s (openRule s o.ep) := by
  rcases openRule_cases s o.ep with ⟨-, h⟩ | ⟨-, -, h⟩ | ⟨-, -, -, h⟩ | ⟨-, -, -, h⟩ <;> rw [h]
  · exact .raised _
  · exact .answered _ rfl rfl (.inl ⟨o, rfl⟩)
  · exact .answered _ rfl rfl (.inl ⟨o, rfl⟩)
  · exact .answered _ rfl rfl trivial

theorem cfgRule_endsIn (s : State) (m : Bool) (o : Operands) : EndsIn (.cfg m o) s (cfgRule s m) := by
  rcases cfgRule_cases s m with ⟨-, h⟩ | ⟨-, -, h⟩ | ⟨-, -, h⟩ <;> rw [h]
  · exact .raised _
  · exact .answered _ rfl rfl (.inr ⟨m, o, rfl⟩)
  · exact .answered _ rfl rfl trivial

theorem writeRule_endsIn (s : State) (o : Operands) : EndsIn (.write o) s (writeRule s o.arg) := by
  rcases writeRule_cases s o.arg with ⟨-, h⟩ | ⟨-, -, h⟩ | ⟨-, -, -, h⟩ | ⟨-, -, -, h⟩ <;> rw [h]
  · exact .raised _
  · exact .raised _
  · exact .answered _ rfl rfl (.inl ⟨o, rfl⟩)
  · exact .answered _ rfl rfl trivial

theorem readEmpty_endsIn (s : State) (o : Operands) : EndsIn (.read o) s (readEmpty s) := by
  rcases readEmpty_cases s with ⟨-, -, h⟩ | ⟨k, -, -, h⟩ | ⟨-, h⟩ <;> rw [h]
  · exact .answered _ rfl rfl trivial
  · exact .held rfl rfl
  · exact .held rfl rfl

theorem readRule_endsIn (s : State) (o : Operands) : EndsIn (.read o) s (readRule s) := by
  rcases readRule_cases s with ⟨-, h⟩ | ⟨-, -, h⟩ | ⟨-, -, -, -, h⟩ | ⟨k, -, -, -, -, h⟩ |
    ⟨-, -, -, -, h⟩ | ⟨v, q, -, -, -, -, -, h⟩ | ⟨-, -, -, -, -, h⟩ <;> rw [h]
  · exact .raised _
  · exact .raised _
  · exact .held rfl rfl
  · exact .held rfl rfl
  · exact .answered _ (by cases readDrops s <;> rfl) rfl (.inr ⟨o, rfl⟩)
  · exact .answered _ rfl rfl trivial
  · exact readEmpty_endsIn s o

/-- How each instruction's own rule ends. -/
theorem ruleState_endsIn (i : Instr) (s : State) : EndsIn i s (ruleState i s) := by
  cases i using instr_mux_or_other with
  | openConn o => exact openRule_endsIn s o
  | closeConn o => exact .answered _ rfl rfl trivial
  | cfg m o => exact cfgRule_endsIn s m o
  | write o => exact writeRule_endsIn s o
  | read o => exact readRule_endsIn s o
  | flush o =>
    rcases flushRule_cases s with ⟨-, h⟩ | ⟨-, h⟩ <;> rw [ruleState, h]
    · exact .raised _
    · exact .answered _ rfl rfl trivial
  | other i hmux =>
    rcases ruleState_uniform_of_not_mux hmux with ⟨r, hok, h⟩ | h <;> rw [h]
    · exact .answered r rfl rfl (by rw [hok]; trivial)
    · exact .raised _

/-- How an instruction ends in a running block: the length check raises a fault, and past it the
instruction's own rule decides. -/
theorem exec_endsIn {i : Instr} {s t : State} (hrun : s.running) (h : exec i s = .next t) :
    EndsIn i s t := by
  rcases exec_next h with ⟨-, -, rfl⟩ | ⟨-, -, rfl⟩ | ⟨⟨hpos, -⟩, -⟩
  · exact ruleState_endsIn i s
  · exact .raised _
  · simp [show s.fault = 0x00 from hrun] at hpos

/-! ### What an arrival writes -/

/-- A received byte writes RXQ, or overflows it and writes FAULT (R133, R134). -/
theorem receive_writes (s : State) (v : Byte) :
    (∃ q, s.receive v = { s with rxq := q }) ∨ ∃ f, s.receive v = { s with fault := f } := by
  rcases receive_cases s v with ⟨-, h⟩ | ⟨-, h⟩ <;> rw [h]
  · exact .inr ⟨_, rfl⟩
  · exact .inl ⟨_, rfl⟩

/-- An arrival in a running block writes RXQ, or overflows it and writes FAULT; beside that it at most
consults the environment (42_transport.md R133 to R136). -/
theorem arrival_writes (s : State) (v : Byte) :
    (∃ q d, s.arrival v = { s with rxq := q, draws := d }) ∨
    (∃ f d, s.arrival v = { s with fault := f, draws := d }) := by
  rcases arrival_cases s v with ⟨-, h⟩ | ⟨-, -, h⟩ | ⟨-, -, h⟩ <;> rw [h]
  · exact .inl ⟨_, _, rfl⟩
  · rcases receive_writes s.drawn (Config.drawByte s.draws) with ⟨q, h⟩ | ⟨f, h⟩ <;> rw [h]
    · exact .inl ⟨q, _, rfl⟩
    · exact .inr ⟨f, _, rfl⟩
  · rcases receive_writes s v with ⟨q, h⟩ | ⟨f, h⟩ <;> rw [h]
    · exact .inl ⟨q, _, rfl⟩
    · exact .inr ⟨f, _, rfl⟩

/-! ### The statements -/

/-- Settles O17: an instruction that sets FAULT has raised it (`exec_endsIn`), and an arrival that sets
FAULT has left RXQ (`arrival_writes`). -/
theorem faultsArePrecise : Obligations.FaultsArePrecise := by
  refine ⟨fun i s t hrun hexec hset => ?command, fun s t v hrun hdev hstep hset => ?arrival⟩
  case command =>
    cases exec_endsIn hrun hexec with
    | raised f => rfl
    | held hfault => exact absurd (hfault.trans hrun) hset
    | answered r hfault => exact absurd (hfault.trans hrun) hset
  case arrival =>
    obtain rfl : s.turnTaken.arrival v = t := by
      simpa using (step_of_arrival hrun hdev).symm.trans hstep
    rcases arrival_writes s.turnTaken v with ⟨q, d, h⟩ | ⟨f, d, h⟩
    · rw [h] at hset
      exact absurd hrun hset
    · rw [h]

/-- Settles O18: a response that is new and no fault's is the instruction's answer, whose STATUS is one of
its own (`exec_endsIn`). -/
theorem errorsComeFromTheirOperations : Obligations.ErrorsComeFromTheirOperations := by
  intro i s t r hrun hexec hrsp hnew
  cases exec_endsIn hrun hexec with
  | raised f =>
    obtain rfl : faultRsp f = r := Option.some.inj hrsp
    exact ⟨nofun, nofun⟩
  | held _ hsame => exact absurd hsame hnew
  | answered a hfault hanswer hstatus =>
    obtain rfl : a = r := Option.some.inj (hanswer.symm.trans hrsp)
    exact ⟨fun hdev => ⟨by rwa [hdev] at hstatus, hfault⟩,
      fun hio => ⟨by rwa [hio] at hstatus, hfault⟩⟩

end Sys2Proof.Machine
end

section
/-! SUPPORT. The exceptions family, third part: the host that waits for its response (60_exceptions.md
R214, R219), and runs that are never over (R231). -/

namespace Sys2Proof.Machine

/-! ### What a turn leaves to the host -/

/-- READ stays at the port or leaves it empty (42_transport.md R130). -/
theorem readRule_port (s : State) : (readRule s).port = s.port ∨ (readRule s).port = none := by
  rcases readRule_cases s with ⟨-, h⟩ | ⟨-, -, h⟩ | ⟨-, -, -, -, h⟩ | ⟨k, -, -, -, -, h⟩ |
    ⟨-, -, -, -, h⟩ | ⟨v, q, -, -, -, -, -, h⟩ | ⟨-, -, -, -, -, h⟩
  case inr.inr.inr.inr.inr.inr =>
    rcases readEmpty_cases s with ⟨-, -, he⟩ | ⟨k, -, -, he⟩ | ⟨-, he⟩ <;> simp [h, he]
  all_goals simp [h]

/-- An instruction's own rule leaves its command at the port, as a READ that holds does, or leaves the
port empty. -/
theorem ruleState_port (i : Instr) (s : State) :
    (ruleState i s).port = s.port ∨ (ruleState i s).port = none := by
  by_cases hread : ∃ o, i = .read o
  · obtain ⟨o, rfl⟩ := hread
    exact readRule_port s
  · obtain ⟨r, -, hport⟩ := ruleState_answers_of_not_read (fun o ho => hread ⟨o, ho⟩) s
    exact .inr hport

/-- Trying a command leaves the host, and leaves the command at the port or the port empty. -/
theorem runCommand_host_port {c : Cmd} {s t : State} (h : runCommand c s = .next t) :
    t.host = s.host ∧ (t.port = s.port ∨ t.port = none) := by
  rcases runCommand_next h with ⟨i, -, hexec⟩ | ⟨e, -, hill⟩
  · have hout := exec_surroundings hexec
    simp only [State.surroundings, Prod.mk.injEq] at hout
    obtain ⟨-, -, -, hhost, -⟩ := hout
    refine ⟨hhost, ?_⟩
    rcases exec_next hexec with ⟨-, -, rfl⟩ | ⟨-, -, rfl⟩ | ⟨-, rfl⟩
    · exact ruleState_port i s
    · exact .inr rfl
    · exact .inl rfl
  · rcases illegalCommand_next hill with ⟨-, rfl⟩ | ⟨-, rfl⟩
    · exact ⟨rfl, .inr rfl⟩
    · exact ⟨rfl, .inl rfl⟩

/-- The device's step leaves the host, the port and whether the host's command was abandoned. -/
theorem arrive_host_port {s t : State} {v : Byte} (h : arrive s v = .next t) :
    t.host = s.host ∧ t.port = s.port ∧ t.abandoned = s.abandoned := by
  rcases arrive_next h with ⟨-, rfl⟩ | ⟨-, rfl⟩
  · rcases arrival_writes s v with ⟨q, d, h⟩ | ⟨f, d, h⟩ <;> rw [h] <;> exact ⟨rfl, rfl, rfl⟩
  · exact ⟨rfl, rfl, rfl⟩

/-! ### A command that is pending, or abandoned -/

/-- While a command is pending the host does nothing, and the command stays until the port is empty. -/
theorem step_of_port_some {s t : State} {c : Cmd} (hport : s.port = some c) (hstep : step s = .next t) :
    t.host = s.host ∧ (t.port = some c ∨ t.port = none) := by
  rcases step_next hstep with ⟨hturn, -⟩ | ⟨v, -, harrive⟩ | ⟨-, rfl⟩
  · rw [step_of_pending hturn hport] at hstep
    rw [← hport]
    exact runCommand_host_port (s := s.turnTaken) hstep
  · obtain ⟨hhost, hsame, -⟩ := arrive_host_port (s := s.turnTaken) harrive
    exact ⟨hhost, .inl (hsame.trans hport)⟩
  · exact ⟨rfl, .inr rfl⟩

/-- A reset has abandoned the host's command, and nothing is at the port: the host waits for a response
that never comes (70_reset_and_hazards.md R240, log 12). -/
structure State.CutOff (s : State) : Prop where
  port : s.port = none
  abandoned : s.abandoned = true

/-- A host that was cut off does nothing, and stays cut off. -/
theorem State.CutOff.step {s t : State} (h : s.CutOff) (hstep : step s = .next t) :
    t.host = s.host ∧ t.CutOff := by
  rcases step_next hstep with ⟨-, hblock⟩ | ⟨v, -, harrive⟩ | ⟨-, rfl⟩
  · rw [blockTurn_of_still (s := s.turnTaken) h.port (.inl h.abandoned)] at hblock
    cases hblock
    exact ⟨rfl, h.port, h.abandoned⟩
  · obtain ⟨hhost, hport, hab⟩ := arrive_host_port (s := s.turnTaken) harrive
    exact ⟨hhost, hport.trans h.port, hab.trans h.abandoned⟩
  · exact ⟨rfl, rfl, by simp [h.abandoned]⟩

/-- A host that was cut off stays so in any number of steps. -/
theorem State.CutOff.run {n : Nat} {s t : State} (h : s.CutOff) (hrun : run n s = .next t) :
    t.CutOff := by
  induction n generalizing s with
  | zero => cases hrun; exact h
  | succ n ih =>
    cases hstep : Machine.step s with
    | next u =>
      rw [run_succ hstep] at hrun
      exact ih (h.step hstep).2 hrun
    | fault r => exact nomatch r
    | refused r => simp [Machine.run, hstep] at hrun

/-- A reset cuts off a host whose command is pending. -/
theorem State.cutOff_resetBlock {s : State} {c : Cmd} (hport : s.port = some c) :
    s.resetBlock.CutOff :=
  ⟨rfl, by simp [hport]⟩

/-- Where the host was cut off, no run is over (R231). -/
theorem State.CutOff.not_runOver {s : State} (h : s.CutOff) : ¬ s.runOver := by
  rintro ⟨-, hab, -, -⟩
  exact absurd h.abandoned (by simp [hab])

/-! ### The statements -/

/-- Settles O20: a pending command by `step_of_port_some`, an abandoned one by `State.CutOff.step`. -/
theorem hostWaitsForTheResponse : Obligations.HostWaitsForTheResponse := by
  refine ⟨fun s t c hport hstep => step_of_port_some hport hstep, fun s t hport hab hstep => ?_⟩
  obtain ⟨hhost, hport, hab⟩ := State.CutOff.step ⟨hport, hab⟩ hstep
  exact ⟨hhost, hport, hab⟩

/-- Settles O60: the reset cuts the host off (`State.cutOff_resetBlock`), which every step keeps
(`State.CutOff.run`); a pending command and FAULT are excluded by what it is for a run to be over. -/
theorem runCutOffByResetIsNeverOver : Obligations.RunCutOffByResetIsNeverOver := by
  refine ⟨fun s c n t hport hreset hrun => ?cutOff, fun s hs => ?pendingOrHalted⟩
  case cutOff =>
    rw [run_succ (step_of_reset hreset)] at hrun
    exact ((State.cutOff_resetBlock (s := s.turnTaken) hport).run hrun).not_runOver
  case pendingOrHalted =>
    rintro ⟨hport, -, -, hfault⟩
    exact hs.elim (absurd hport) (absurd hfault)

end Sys2Proof.Machine
end

section
/-! SUPPORT. The reset and hazards family: reset in any state (70_reset_and_hazards.md R240), and the order
OPEN, CFG, WRITE (R242). -/

namespace Sys2Proof.Machine

/-- Settles O10: the step at a reset turn (`step_of_reset`) is `State.resetBlock`, written out. -/
theorem resetPutsEveryElementAtItsValue : Obligations.ResetPutsEveryElementAtItsValue :=
  fun _ hreset => step_of_reset hreset

/-- Where the line is not configured, WRITE raises UNCONFIGURED before any draw (42_transport.md R128). -/
theorem exec_write_of_unconfigured {o : Operands} {s : State} (hrun : s.running) (hcar : s.carries o.arg)
    (hopen : s.conn = .opened) (hmode : s.mode = .unconfigured) :
    exec (.write o) s = .next (s.raise .unconfigured) := by
  rw [exec_of_running (.write o) s hrun hcar]
  simp [ruleState, writeRule, hopen, hmode]

/-- The mode CFG selects is never UNCONFIGURED (42_transport.md R127). -/
theorem selectedMode_ne_unconfigured (m : Bool) : selectedMode m ≠ .unconfigured := by
  cases m <;> decide

/-- Settles O55: OPEN, CFG and WRITE each complete (`openCompletes`, `cfgCompletes`, `writeCompletes`), the
mode being one that CFG selects; the connection that OPEN leaves is not configured, so WRITE straight after
it faults (`exec_write_of_unconfigured`). -/
theorem bootOrderGivesAUsableConnection : Obligations.BootOrderGivesAUsableConnection := by
  intro s m o1 o2 o3 hrun hclosed hep hdev hio hcar1 hcar2 hcar3
  exact ⟨_, _, _, _, openCompletes o1 s hrun hcar1 hclosed hep hdev,
    cfgCompletes m o2 _ hrun hcar2 rfl hdev,
    writeCompletes o3 _ hrun hcar3 rfl (selectedMode_ne_unconfigured m) hio,
    rfl, rfl, hrun, exec_write_of_unconfigured hrun hcar3 rfl rfl, rfl, rfl⟩

end Sys2Proof.Machine
end
